-- ==== Sys2Proof/Word.lean ====
section
/-!
DEFINITION. The words the FR-610's manual counts in (spec/00_scope.md, section 4) and nothing else: octets of the
link, 32-bit words of a bank, 64-bit tokens. Everything that can be shown wrong by a test stands in `Machine/`.
-/

namespace Sys2Proof

/-- One octet of the fare data link. -/
abbrev Octet := BitVec 8

/-- One 32-bit word of a bank, and any unsigned 32-bit number of the engine (line seconds, counters, serials). -/
abbrev Word := BitVec 32

/-- Line seconds: an unsigned 32-bit count since the start of service day 0 (spec/00_scope.md, 4.4). -/
abbrev LineTime := BitVec 32

/-- The 64-bit identifier of a passenger's medium (spec/00_scope.md, 4.6). -/
abbrev Token := BitVec 64

/-- A frame as it crosses the link: its octets in order, header and check included (R157). -/
abbrev Frame := List Octet

end Sys2Proof
end

