-- ==== Sys2Proof/Syntax.lean ====
section
/-!
DEFINITION. The commands of the block: one constructor for each row of spec/opcode_table.json, in the table's order.
A row is one whole and indivisible step of the part (spec/95_what_each_step_holds.md). The table gives no row any
bits or fields; the operands here are what the world outside hands the part at that event: the strap pins at a
power-up, a port, the octets of a frame. A request's arguments are not operands: they stand in the frame that the
Responder takes from the office intake queue.
-/

namespace Sys2Proof

/-- The two ports: the Station Port faces the concentrators, the Office Port the fare office (spec/09, 9.1). -/
inductive Port
  | station
  | office
  deriving DecidableEq, Repr

/-- What the DRAM-size strap pins select (R65). The manual does not give the pins' levels, only that one combination
names no size. -/
inductive DramStrap
  | buckets4096
  | buckets8192
  | buckets16384
  | namesNone
  deriving DecidableEq, Repr

/-- The commands: one for each row of the table. -/
inductive Instr
  /-- POWER_UP: the part is powered, with the strap pins as they read then (R80, R65, R159). -/
  | powerUp (dram : DramStrap) (node : Octet)
  /-- RESET_LINE_INPUT: the reset line input is asserted (R183). -/
  | resetLineInput
  /-- SECOND_BOUNDARY (R129). -/
  | secondBoundary
  /-- MILLISECOND_TICK (R131). -/
  | millisecondTick
  /-- PAUSE_RUNS_OUT (R115). -/
  | pauseRunsOut
  /-- FRAME_RECEIVED: a port has received the last octet of a frame (R157). -/
  | frameReceived (port : Port) (octets : Frame)
  /-- FRAME_OVERLENGTH_DISCARD: the 1034th octet of a frame has come in. The operands are the octets the frame had in
  the kind and source positions (R157, R158). -/
  | frameOverlengthDiscard (port : Port) (kind source : Octet)
  /-- FAR_END_PAUSE_ASSERTED (R163). -/
  | farEndPauseAsserted (port : Port)
  /-- FAR_END_PAUSE_RELEASED (R163). -/
  | farEndPauseReleased (port : Port)
  /-- FRAME_BEGIN (R163). -/
  | frameBegin (port : Port)
  /-- FRAME_TRANSMISSION_END (R163). -/
  | frameTransmissionEnd (port : Port)
  /-- TAP_FRAME_TAKEN (R84). -/
  | tapFrameTaken
  /-- TAP_RECORD (R87). -/
  | tapRecord
  /-- RESERVATION_GRANTED (R91). -/
  | reservationGranted
  /-- SECOND_RESERVATION_GRANTED (R24). -/
  | secondReservationGranted
  /-- TAP_HOLD_GRANTED (R92). -/
  | tapHoldGranted
  /-- ASSIST_EXIT_TAKEN (R107). -/
  | assistExitTaken
  /-- JOB_TAKEN_INTO_WORK (R21). -/
  | jobTakenIntoWork
  /-- COMPUTATION_COMPLETE (R19). -/
  | computationComplete
  /-- WAIT_SETTLEMENT_END (R20). -/
  | waitSettlementEnd
  /-- WRITE_BACK (R45). -/
  | writeBack
  /-- SWEEP_HOLD_GRANTED (R116). -/
  | sweepHoldGranted
  /-- SWEEPER_SLOT_GRANTED (R119). -/
  | sweeperSlotGranted
  /-- POWER_UP_START_PASS_BUCKET (R123). -/
  | powerUpStartPassBucket
  /-- RESTART_START_PASS_BUCKET (R124). -/
  | restartStartPassBucket
  /-- START_PASS_SLOT_GRANTED (R124). -/
  | startPassSlotGranted
  /-- CLEAR_COMPLETION (R140). -/
  | clearCompletion
  /-- ACTIVATION_CHECK_END (R150). -/
  | activationCheckEnd
  /-- STATUS (R174). -/
  | status
  /-- SET_TIME (R133). -/
  | setTime
  /-- SET_TRIM (R134). -/
  | setTrim
  /-- CLEAR_SEGMENT (R139). -/
  | clearSegment
  /-- WRITE_UNIT (R142). -/
  | writeUnit
  /-- WRITE_NEXT (R143). -/
  | writeNext
  /-- SET_POINTER (R144). -/
  | setPointer
  /-- READ_UNIT (R144). -/
  | readUnit
  /-- SCHEDULE (R147). -/
  | schedule
  /-- UNSCHEDULE (R148). -/
  | unschedule
  /-- READ_BANKS (R138). -/
  | readBanks
  /-- SWEEP_CONFIG (R111). -/
  | sweepConfig
  /-- SWEEP_START (R112). -/
  | sweepStart
  /-- SWEEP_STOP (R113). -/
  | sweepStop
  /-- READ_TOKEN (R175). -/
  | readToken
  /-- TOKEN_RECORD_READ (R79). -/
  | tokenRecordRead
  /-- ASSIST_EXIT (R176). -/
  | assistExit
  /-- SET_CHANNELS (R177). -/
  | setChannels
  /-- READ_FAULT (R180). -/
  | readFault
  /-- CLEAR_FAULT (R180). -/
  | clearFault
  /-- RESTART (R182). -/
  | restart
  /-- UNKNOWN_REQUEST (R171). -/
  | unknownRequest
  deriving DecidableEq, Repr

end Sys2Proof
end

