-- ==== Sys2Proof/Decode.lean ====
section
/-!
DEFINITION. The commands that words spell by the bits of spec/opcode_table.json. No row of the table gives any bits
(its `fields` are empty and it has no `fixed`), so no word spells a command. How the octets of a link frame are read
is `Machine/Operands.lean`.
-/

namespace Sys2Proof

/-- The command that the table's bits read from the word: none, since the table gives bits to no row. -/
def decodeTableWord (_nbits _w : Nat) : Option Instr := none

end Sys2Proof
end

