-- ==== Sys2Proof/Machine/Records.lean ====
section
/-!
DEFINITION. The data types the blocks hold: token records and their parts (spec/04), jobs (spec/02), settlements
(spec/03), verdict and reply entries (spec/09), and the small named sets of the manual's tables.
-/

namespace Sys2Proof.Machine

open Sys2Proof

/-- Bank A or bank B of the Table Store. -/
inductive BankId
  | A
  | B
  deriving DecidableEq, Repr

/-- The other bank. -/
def BankId.other : BankId → BankId
  | .A => .B
  | .B => .A

/-- Table 8-2. -/
inductive BankState
  | staging
  | scheduled
  | checking
  | active
  | retiring
  deriving DecidableEq, Repr

/-- A station, a gate and a line time: what a tap leaves in a record, a part or a job. -/
structure Leg where
  station : Octet
  gate : Octet
  time : LineTime
  deriving DecidableEq, Repr, Inhabited

/-- The settlement flags (Table 3-4); a job and a closing part carry the same set (R26, R62). -/
structure SettleFlags where
  entryClamped : Bool := false
  exitClamped : Bool := false
  exitBeforeEntry : Bool := false
  late : Bool := false
  capUntracked : Bool := false
  assisted : Bool := false
  overrideUsed : Bool := false
  resubmitted : Bool := false
  provisional : Bool := false
  deriving DecidableEq, Repr, Inhabited

/-- The verdict flags (R105). -/
structure VerdictFlags where
  clamped : Bool := false
  late : Bool := false
  previousClosed : Bool := false
  exitBeforeEntry : Bool := false
  deriving DecidableEq, Repr, Inhabited

/-- The kind of a job with the entry data, exit data and old charge that the kind carries (R26, Table 2-2). -/
inductive Journey
  | complete (entry exit : Leg)
  | cancelled (entry exit : Leg)
  | incomplete (entry : Leg)
  | unmatched (exit : Leg)
  | correction (entry exit : Leg) (oldCharge : BitVec 16)
  | expired (entry : Leg)
  | displaced (entry : Leg)
  deriving DecidableEq, Repr, Inhabited

/-- The entry data of the job, where its kind has them. -/
def Journey.entry? : Journey → Option Leg
  | .complete e _ => some e
  | .cancelled e _ => some e
  | .incomplete e => some e
  | .unmatched _ => none
  | .correction e _ _ => some e
  | .expired e => some e
  | .displaced e => some e

/-- The exit data of the job, where its kind has them. -/
def Journey.exit? : Journey → Option Leg
  | .complete _ x => some x
  | .cancelled _ x => some x
  | .incomplete _ => none
  | .unmatched x => some x
  | .correction _ x _ => some x
  | .expired _ => none
  | .displaced _ => none

/-- The old charge, which a CORRECTION alone carries. -/
def Journey.oldCharge? : Journey → Option (BitVec 16)
  | .correction _ _ o => some o
  | _ => none

/-- What waits for a job's write-back: an entry of the verdict queue, or the reply entry of an ASSIST EXIT (R26). -/
inductive Reference
  | none
  | verdict (slot position : Nat)
  | reply (entry : Nat)
  deriving DecidableEq, Repr, Inhabited

/-- The open part of a token record (R61). -/
structure OpenPart where
  entry : Leg
  cls : Octet
  bank : BankId
  timeClamped : Bool
  late : Bool
  deriving DecidableEq, Repr

/-- The closing part of a token record (R62, Table 4-2). -/
structure ClosingPart where
  journey : Journey
  tag : BitVec 16
  bank : BankId
  cls : Octet
  ref : Reference
  flags : SettleFlags
  deriving DecidableEq, Repr

/-- The recent-expiry part of a token record (R63). -/
structure RecentPart where
  entry : Leg
  cls : Octet
  bank : BankId
  expiryTime : LineTime
  charged : BitVec 16
  deriving DecidableEq, Repr

/-- A token record: the base fields of Table 4-1 and the three optional parts (R60). -/
structure TokenRecord where
  token : Token
  spendDay : BitVec 16
  spentToday : BitVec 16
  journeysToday : BitVec 8
  lastTap : Option Leg
  lastActivity : LineTime
  openPart : Option OpenPart
  closing : Option ClosingPart
  recent : Option RecentPart
  deriving DecidableEq, Repr

/-- A job of the FAU (R26, Table 2-2). -/
structure Job where
  journey : Journey
  tag : BitVec 16
  token : Token
  bank : BankId
  cls : Octet
  ref : Reference
  flags : SettleFlags
  deriving DecidableEq, Repr

/-- What stages 1 to 4 hand on beside the job's own fields (R38). -/
structure FareResult where
  distance : Nat
  pathStart : Nat
  pathEnd : Nat
  fare : Nat
  version : Word
  deriving DecidableEq, Repr

/-- The job in work and how far the FAU has come with it. `waitHold` is a job whose bucket has been requested: the FAU
is in WAIT_HOLD until the hold is granted and in WRITE_BACK from then on (R19), which `State.fauStanding` reads from the
hold. -/
inductive FauState
  | idle
  | computing (job : Job)
  | waitSettlement (job : Job) (result : FareResult)
  | waitHold (job : Job) (result : FareResult)
  deriving DecidableEq, Repr

/-- The five states of Table 2-1. -/
inductive FauStanding
  | idle
  | computing
  | waitSettlement
  | waitHold
  | writeBack
  deriving DecidableEq, Repr

/-- One share of a settlement: operator and signed amount (R58). -/
structure Share where
  operator : Nat
  amount : Int
  deriving DecidableEq, Repr

/-- A settlement (R50, Table 3-3). The kind, and the entry and exit data with their absence, are the journey's. -/
structure Settlement where
  serial : Word
  journey : Journey
  flags : SettleFlags
  token : Token
  cls : Octet
  version : Word
  distance : Nat
  fare : Nat
  amount : Int
  spentAfter : BitVec 16
  shares : List Share
  deriving DecidableEq, Repr

/-- Table 5-4. -/
inductive VerdictKind
  | entered
  | exited
  | cancelled
  | corrected
  | unmatched
  | duplicate
  | denied
  | unknownStation
  | stationClosed
  | notReady
  | malformed
  deriving DecidableEq, Repr

/-- One verdict entry: it is waiting until it is complete (R84, R105). Its kind is absent until the Matcher sets it. -/
structure VerdictEntry where
  complete : Bool
  kind : Option VerdictKind
  flags : VerdictFlags
  charge : Int
  capRoom : BitVec 16
  deriving DecidableEq, Repr

/-- The entry as the claiming of its slot leaves it (R84). -/
def VerdictEntry.fresh : VerdictEntry := ⟨false, none, {}, 0, 0⟩

/-- The states of a place in a queue that is claimed or reserved before it is filled (R164, R166). -/
inductive PlaceState
  | free
  | taken
  | ready
  | sending
  deriving DecidableEq, Repr

/-- A slot of the verdict queue (R164). `taken` is the manual's *claimed*. What a free slot records is the model's
choice: node 0, sequence 0 and no entries (DESIGN CHOICE, log 35). -/
structure VerdictSlot where
  state : PlaceState := .free
  source : Octet := 0
  sequence : BitVec 16 := 0
  entries : List VerdictEntry := []
  deriving DecidableEq, Repr, Inhabited

/-- The reply statuses (spec/09, 9.6). -/
inductive Status
  | done
  | busy
  | badArgument
  | notCleared
  | isProtected
  | inUse
  | notFound
  | notReady
  | badState
  deriving DecidableEq, Repr

/-- An entry of the reply queue (R166, R170). `taken` is the manual's *reserved*. What a free entry holds is the model's
choice: zeros, DONE and no data (DESIGN CHOICE, log 35). -/
structure ReplyEntry where
  state : PlaceState := .free
  dest : Octet := 0
  sequence : BitVec 16 := 0
  code : Octet := 0
  tag : BitVec 16 := 0
  status : Status := .done
  data : List Octet := []
  deriving DecidableEq, Repr, Inhabited

/-- A tap record as a tap frame carries it (R87, Table 9-2). -/
structure TapRecord where
  token : Token
  station : Octet
  gate : Octet
  direction : Octet
  cls : Octet
  time : LineTime
  deriving DecidableEq, Repr

/-- What the Matcher is handling: a tap record of a frame, whose verdict entry and source node it names, or an
ASSIST EXIT, whose reply entry it names. -/
inductive Origin
  | tap (slot position : Nat) (source : Octet)
  | assist (entry : Nat)
  deriving DecidableEq, Repr

/-- A tap record or ASSIST EXIT in work: the record as it came, the judging bank (R88, R107), the handled time and marks
of R90, and whether the judging bank has passed another check since the station test, so that what was tested is no
longer what the bank holds (R1, R93; DEDUCED, log 31). -/
structure Handling where
  origin : Origin
  tap : TapRecord
  judging : BankId
  time : LineTime
  clamped : Bool
  late : Bool
  lapsed : Bool
  deriving DecidableEq, Repr

/-- The record after a check of bank `b` has passed: a station test under that bank was made on other contents, since
the bank was replaced and loaded again meanwhile (R93; DEDUCED, log 31). -/
def Handling.afterPass (h : Handling) (b : BankId) : Handling := if h.judging = b then { h with lapsed := true } else h

/-- Table 5-1. -/
inductive Readiness
  | starting
  | waiting
  | ready
  deriving DecidableEq, Repr

/-- The record or request the Matcher has in work and how far it has come. `none` is none in work: IDLE,
WAIT_VERDICT_SLOT or, with a frame in work, JUDGING about to begin its next record. `waitHold` has requested the bucket:
WAIT_HOLD until the hold is granted and HOLDING from then on (R91). `rejudge` is JUDGING again after a failed bank claim
(R93). `State.matcherStanding` reads the state of Table 5-2. -/
inductive MatcherWork
  | none
  | rejudge (h : Handling)
  | waitReservation (h : Handling)
  | waitHold (h : Handling)
  | waitToken (h : Handling)
  | waitBucket (h : Handling)
  | waitSecond (h : Handling)
  deriving DecidableEq, Repr

/-- The work with its record or request changed by `f`. -/
def MatcherWork.withHandling (f : Handling → Handling) : MatcherWork → MatcherWork
  | .none => .none
  | .rejudge h => .rejudge (f h)
  | .waitReservation h => .waitReservation (f h)
  | .waitHold h => .waitHold (f h)
  | .waitToken h => .waitToken (f h)
  | .waitBucket h => .waitBucket (f h)
  | .waitSecond h => .waitSecond (f h)

/-- The nine work states of Table 5-2. -/
inductive MatcherStanding
  | idle
  | waitVerdictSlot
  | judging
  | waitReservation
  | waitHold
  | holding
  | waitToken
  | waitBucket
  | waitSecondReservation
  deriving DecidableEq, Repr

/-- The tap frame in work: its verdict slot, its source node, the records not yet begun and the position of the first
of them in the frame (R84). -/
structure FrameInWork where
  slot : Nat
  source : Octet
  remaining : List TapRecord
  position : Nat
  deriving DecidableEq, Repr

/-- What a block reads at the grant of its hold: the line seconds of the clock (R41, R92, R116) and the operator channel
mask, which the FAU's write-back alone uses (R57, R177). A start pass uses neither. -/
structure Reading where
  now : LineTime := 0
  channels : BitVec 4 := 15
  deriving DecidableEq, Repr

/-- One block's standing at the hold arbiter: it asks for nothing, waits for a bucket, or holds one since a grant at
which it read the clock and the mask (R73). -/
inductive Hold
  | none
  | waiting (bucket : Nat)
  | held (bucket : Nat) (read : Reading)
  deriving DecidableEq, Repr

/-- One requester's standing at the slot arbiter (R22). `granted` is a slot granted to a request that waited, which
the requester takes up in its own step. -/
inductive SlotRequest
  | none
  | waiting
  | granted
  deriving DecidableEq, Repr

/-- Table 6-1. -/
inductive SweepState
  | idle
  | burst
  | pause
  | waitSlot
  | stopping
  | startPass
  deriving DecidableEq, Repr

/-- The Sweeper's mode (R110). -/
inductive SweepMode
  | single
  | continuous
  deriving DecidableEq, Repr

/-- Which start pass runs: the one after power-up (R123) or the one after a restart (R124). -/
inductive PassKind
  | powerUp
  | restart
  deriving DecidableEq, Repr

/-- The kinds of the fault capture record (R178). -/
inductive FaultKind
  | none
  | writeProtected
  | writeNotCleared
  | activationFailed
  | recordDisplaced
  | unknownStation
  | frameCheck
  deriving DecidableEq, Repr

/-- What the Station Port is sending, with the octets it sends. -/
inductive StationSending
  | verdict (slot : Nat) (octets : Frame)
  | passThrough (octets : Frame)
  deriving DecidableEq, Repr

/-- What the Office Port is sending, with the octets it sends. -/
inductive OfficeSending
  | reply (entry : Nat) (octets : Frame)
  | settlement (octets : Frame)
  | passThrough (octets : Frame)
  deriving DecidableEq, Repr

/-- A request that stays in work past the step that takes it (R172): a READ TOKEN waiting for its bucket, an ASSIST
EXIT handed to the Matcher, and one the Matcher has taken. -/
inductive RequestInWork
  | readToken (token : Token) (entry : Nat)
  | assistHanded (token : Token) (station gate : Octet) (entry : Nat)
  | assistTaken (entry : Nat)
  deriving DecidableEq, Repr

end Sys2Proof.Machine
end

