-- ==== Sys2Proof/Config.lean ====
section
/-!
DEFINITION. What the part fixes in numbers, and the FREE VALUES: constants with no body, for the values that the
manual leaves open while the machine goes on. Nothing in Lean can evaluate a free value, so a claim holds whatever
it is. Those that a step meets afresh are applied to the plain counter `State.freeCount`, which every use advances.
-/

namespace Sys2Proof.Config

open Sys2Proof Sys2Proof.Machine

/-- The word a cleared word reads as (spec/00_scope.md, 4.7). -/
def clearedWord : Word := 4294967295

/-- Places of the FAU's job queue (R21). -/
def jobSlots : Nat := 8
/-- Slots of the verdict queue (R164). -/
def verdictSlots : Nat := 32
/-- Entries of the reply queue (R166). -/
def replyEntries : Nat := 8
/-- Capacity of the settlement queue (R166). -/
def settlementPlaces : Nat := 64
/-- Capacity of the station intake queue (R160). -/
def stationIntakePlaces : Nat := 32
/-- Capacity of the office intake queue (R160). -/
def officeIntakePlaces : Nat := 16
/-- Capacity of each pass-through queue (R162). -/
def passPlaces : Nat := 16
/-- Ways of a bucket (R65). -/
def ways : Nat := 8
/-- Buckets of a burst (R114). -/
def burstBuckets : Nat := 4
/-- Seconds of a service day (spec/00_scope.md, 4.4). -/
def daySeconds : Nat := 86400

/-- FREE VALUE (log 12): what a way of external DRAM holds after a power-up before the start pass has written it. Its
contents then carry no meaning (R80), and a restart that interrupts that pass keeps them (R81). -/
opaque undefinedWay : Nat → Nat → Option TokenRecord

/-- FREE VALUE (log 13): how far a clear in flight has come when that is first seen (R140, R141). -/
opaque clearProgress : Nat → Nat

/-- FREE VALUE (log 13): which of the four words of the unit a clear was clearing at a reset are cleared (R141). A mask
that would leave the unit wholly clear leaves it as it was. -/
opaque clearPartial : Nat → BitVec 4

/-- FREE VALUE (log 14): how many words of the derived column a check in flight has written when that is first seen
(R18, R144). -/
opaque checkProgress : Nat → Nat

/-- FREE VALUE (log 28): bits 31..24 of the derived-column word of each station in force (Table 9-10). -/
opaque derivedSpare : Nat → BitVec 8

end Sys2Proof.Config
end

