-- ==== Sys2Proof/Machine/Sparse.lean ====
section
/-!
DEFINITION. A sparse store: a list of (number, contents) pairs in one canonical form, numbers strictly rising. The
words of a bank and the ways of the Token Table are held so. An unlisted word reads as the cleared word (a part as
delivered holds it everywhere, R137) and is never listed with that value; an unlisted way is empty.
-/

namespace Sys2Proof.Machine

open Sys2Proof

/-- The contents listed under the number, if any. -/
def sparseGet {α : Type} : List (Nat × α) → Nat → Option α
  | [], _ => none
  | (n, x) :: m, k => if n = k then some x else sparseGet m k

/-- Lists the contents under the number, in its place. -/
def sparseSet {α : Type} : List (Nat × α) → Nat → α → List (Nat × α)
  | [], k, x => [(k, x)]
  | (n, y) :: m, k, x =>
    if k < n then (k, x) :: (n, y) :: m
    else if k = n then (k, x) :: m
    else (n, y) :: sparseSet m k x

/-- Takes the number off the list. -/
def sparseErase {α : Type} : List (Nat × α) → Nat → List (Nat × α)
  | [], _ => []
  | (n, y) :: m, k => if n = k then m else (n, y) :: sparseErase m k

/-- Lists the contents, or takes the number off the list where there are none. -/
def sparsePut {α : Type} (m : List (Nat × α)) (k : Nat) : Option α → List (Nat × α)
  | some x => sparseSet m k x
  | none => sparseErase m k

/-- The canonical form: numbers strictly rising. -/
abbrev sparseRising {α : Type} (m : List (Nat × α)) : Prop := (m.map Prod.fst).Pairwise (· < ·)

/-- The words of a bank: word offset and word. -/
abbrev WordMem := List (Nat × Word)

/-- The word at an offset. -/
def wordAt (m : WordMem) (offset : Nat) : Word := (sparseGet m offset).getD Config.clearedWord

/-- Writes one word; writing the cleared word takes the offset off the list. -/
def writeWord (m : WordMem) (offset : Nat) (w : Word) : WordMem :=
  if w = Config.clearedWord then sparseErase m offset else sparseSet m offset w

/-- Writes consecutive words from an offset up. -/
def writeWords : WordMem → Nat → List Word → WordMem
  | m, _, [] => m
  | m, offset, w :: ws => writeWords (writeWord m offset w) (offset + 1) ws

/-- The canonical form of a bank's words: offsets strictly rising and no cleared word listed. -/
abbrev wordsWf (m : WordMem) : Prop := sparseRising m ∧ ∀ e ∈ m, e.2 ≠ Config.clearedWord

end Sys2Proof.Machine
end

