-- ==== Sys2Proof/Machine/Tables.lean ====
section
/-!
DEFINITION. The tables of a bank and the lookups on them (spec/01_fare_tables.md), read from the bank's words by the
bank word map (R169, Table 9-10).
-/

namespace Sys2Proof.Machine

open Sys2Proof

/-- Bits 31..16 of a word. -/
def highHalf (w : Word) : Nat := (w.extractLsb' 16 16).toNat
/-- Bits 15..0 of a word. -/
def lowHalf (w : Word) : Nat := (w.extractLsb' 0 16).toNat
/-- The difference of two counts without its sign. -/
def absDiff (x y : Nat) : Nat := (x - y) + (y - x)

/-! ### Header, parameters (R1 to R4) -/

/-- A header count or a parameter: the whole word at its offset. -/
def wholeWord (m : WordMem) (offset : Nat) : Nat := (wordAt m offset).toNat

def version (m : WordMem) : Word := wordAt m 0
def stationCount (m : WordMem) : Nat := wholeWord m 2
def branchCount (m : WordMem) : Nat := wholeWord m 3
def tierCount (m : WordMem) : Nat := wholeWord m 4
def operatorCount (m : WordMem) : Nat := wholeWord m 5
def overrideCount (m : WordMem) : Nat := wholeWord m 6
def holidayCount (m : WordMem) : Nat := wholeWord m 7
def territoryCount (m : WordMem) : Nat := wholeWord m 8
def denyCount (m : WordMem) : Nat := wholeWord m 9
def bandCount (m : WordMem) (dayType : Nat) : Nat := wholeWord m (10 + dayType)

def boardingCharge (m : WordMem) : Nat := wholeWord m 16
def minFare (m : WordMem) : Nat := wholeWord m 17
def maxFare (m : WordMem) : Nat := wholeWord m 18
def fareStep (m : WordMem) : Nat := wholeWord m 19
def roundingMode (m : WordMem) : Nat := wholeWord m 20
def weekdayOffset (m : WordMem) : Nat := wholeWord m 21
def maxJourneyDuration (m : WordMem) : Nat := wholeWord m 22
def cancelWindow (m : WordMem) : Nat := wholeWord m 23
def debounceWindow (m : WordMem) : Nat := wholeWord m 24
def correctionWindow (m : WordMem) : Nat := wholeWord m 25
def lateLimit (m : WordMem) : Nat := wholeWord m 26

/-! ### Geometry (R5 to R10) -/

def stationChainage (m : WordMem) (s : Nat) : Nat := lowHalf (wordAt m (32 + s))
def stationBranch (m : WordMem) (s : Nat) : Nat := ((wordAt m (32 + s)).extractLsb' 16 2).toNat
def openForEntry (m : WordMem) (s : Nat) : Bool := (wordAt m (32 + s)).getLsbD 24
/-- The trunk chainage of the junction of branch `b`, 1..3 (R6). -/
def junction (m : WordMem) (b : Nat) : Nat := lowHalf (wordAt m (95 + b))

/-- The geometric distance between two stations, by the first case of Table 1-4 that applies, unsaturated (R7). -/
def geometricDistance (m : WordMem) (s t : Nat) : Nat :=
  let b1 := stationBranch m s
  let b2 := stationBranch m t
  let c1 := stationChainage m s
  let c2 := stationChainage m t
  if b1 = b2 then absDiff c1 c2
  else if b1 = 0 then absDiff c1 (junction m b2) + c2
  else if b2 = 0 then absDiff c2 (junction m b1) + c1
  else absDiff (junction m b1) (junction m b2) + c1 + c2

def overrideA (m : WordMem) (p : Nat) : Nat := ((wordAt m (1024 + p)).extractLsb' 24 8).toNat
def overrideB (m : WordMem) (p : Nat) : Nat := ((wordAt m (1024 + p)).extractLsb' 16 8).toNat
def overrideDistance (m : WordMem) (p : Nat) : Nat := lowHalf (wordAt m (1024 + p))

/-- The distance of the override pair in force that matches the two stations, taken in either order (R8). -/
def overrideFor (m : WordMem) (s t : Nat) : Option Nat :=
  ((List.range (overrideCount m)).find?
    fun p => decide (overrideA m p = min s t ∧ overrideB m p = max s t ∧ s ≠ t)).map (overrideDistance m)

/-- The charged distance between two stations in force (R9). -/
def chargedDistance (m : WordMem) (s t : Nat) : Nat :=
  (overrideFor m s t).getD (min 65535 (geometricDistance m s t))

/-- The farthest distance and farthest station of a station, ties to the lowest index (R10). -/
def farthest (m : WordMem) (s : Nat) : Nat × Nat :=
  (List.range (stationCount m)).foldl
    (fun best t => if best.1 < chargedDistance m s t then (chargedDistance m s t, t) else best)
    (chargedDistance m s 0, 0)

/-- The derived column as the bank holds it (Table 9-10). -/
def derivedDistance (m : WordMem) (s : Nat) : Nat := lowHalf (wordAt m (1536 + s))
def derivedStation (m : WordMem) (s : Nat) : Nat := ((wordAt m (1536 + s)).extractLsb' 16 8).toNat

/-! ### Tiers (R11) -/

/-- The stored boundary of tier `i`, 1..6. -/
def tierBoundary (m : WordMem) (i : Nat) : Nat := highHalf (wordAt m (99 + i))
def tierRate (m : WordMem) (i : Nat) : Nat := lowHalf (wordAt m (99 + i))
/-- The lower boundary of tier `i`: 0 for tier 1, else the boundary of the tier before it. -/
def tierLower (m : WordMem) (i : Nat) : Nat := if i ≤ 1 then 0 else tierBoundary m (i - 1)

/-- The length of a charged distance that falls in tier `i` (R11). -/
def tierLength (m : WordMem) (d i : Nat) : Nat :=
  if tierLower m i < d then
    (if i < tierCount m then min d (tierBoundary m i) else d) - tierLower m i
  else 0

/-! ### Day types and bands (R12, R13) -/

def serviceDay (t : LineTime) : Nat := t.toNat / Config.daySeconds
def secondOfDay (t : LineTime) : Nat := t.toNat % Config.daySeconds

def holiday (m : WordMem) (h : Nat) : Nat := lowHalf (wordAt m (144 + h))
def dayTypeMap (m : WordMem) (w : Nat) : Nat := ((wordAt m (108 + w)).extractLsb' 0 2).toNat

/-- The day type of service day `n` (R12). -/
def dayType (m : WordMem) (n : Nat) : Nat :=
  if (List.range (holidayCount m)).any (fun h => holiday m h == n) then 2
  else dayTypeMap m ((n + weekdayOffset m) % 7)

def bandStart (m : WordMem) (d j : Nat) : Nat := highHalf (wordAt m (120 + 8 * d + j))
def bandFactor (m : WordMem) (d j : Nat) : Nat := lowHalf (wordAt m (120 + 8 * d + j))

/-- The band in force of day type `d` at a minute of day: the greatest start minute not above it (R13). Band 0 starts
at minute 0 in every checked bank. -/
def bandInForce (m : WordMem) (d minute : Nat) : Nat :=
  (List.range (bandCount m d)).foldl
    (fun best j => if bandStart m d best ≤ bandStart m d j ∧ bandStart m d j ≤ minute then j else best) 0

/-- The band factor at a line time (R13). -/
def bandFactorAt (m : WordMem) (t : LineTime) : Nat :=
  let d := dayType m (serviceDay t)
  bandFactor m d (bandInForce m d (secondOfDay t / 60))

/-! ### Classes, territories, deny list (R14 to R16) -/

def classFactor (m : WordMem) (cls : Octet) : Nat := highHalf (wordAt m (160 + cls.toNat))
def dailyCap (m : WordMem) (cls : Octet) : Nat := lowHalf (wordAt m (160 + cls.toNat))

def territoryBranch (m : WordMem) (t : Nat) : Nat := highHalf (wordAt m (168 + 2 * t))
def territoryOperator (m : WordMem) (t : Nat) : Nat := lowHalf (wordAt m (168 + 2 * t))
def territoryFrom (m : WordMem) (t : Nat) : Nat := highHalf (wordAt m (169 + 2 * t))
def territoryTo (m : WordMem) (t : Nat) : Nat := lowHalf (wordAt m (169 + 2 * t))

/-- The owner of the point at chainage `x` on branch `b` (R15). -/
def pointOwner (m : WordMem) (b x : Nat) : Nat :=
  (((List.range (territoryCount m)).find?
    fun t => decide (territoryBranch m t = b ∧ territoryFrom m t ≤ x ∧ x < territoryTo m t)).map
      (territoryOperator m)).getD 0

/-- The owner of a station (R15). -/
def stationOwner (m : WordMem) (s : Nat) : Nat := pointOwner m (stationBranch m s) (stationChainage m s)

/-- Entry `i` of the deny list, high half first (R16, Table 9-10). -/
def denyToken (m : WordMem) (i : Nat) : Token := wordAt m (8192 + 2 * i) ++ wordAt m (8193 + 2 * i)

/-- The token equals one of the entries in force of the deny list (R16). -/
def denied (m : WordMem) (token : Token) : Bool :=
  (List.range (denyCount m)).any fun i => denyToken m i == token

end Sys2Proof.Machine
end

