-- ==== Sys2Proof/Machine/Fare.lean ====
section
/-!
DEFINITION. Stages 1 to 4 of a fare (spec/02_fare_arithmetic.md), in whole numbers: charged distance, base charge in
millicents, scaling by band and class, and cents, step and clamp.
-/

namespace Sys2Proof.Machine

open Sys2Proof

/-- What stage 1 finds: the charged distance, the two ends of the path, and whether an override pair set the distance
(R28 to R30). -/
structure StageOne where
  distance : Nat
  pathStart : Nat
  pathEnd : Nat
  overrideUsed : Bool
  deriving DecidableEq, Repr

/-- Stage 1 for two named stations: a COMPLETE or CORRECTION job (R28). -/
def stageOnePair (m : WordMem) (entry exit : Nat) : StageOne :=
  if exit < stationCount m then
    ⟨chargedDistance m entry exit, entry, exit, (overrideFor m entry exit).isSome⟩
  else ⟨derivedDistance m entry, entry, derivedStation m entry, false⟩

/-- Stage 1 (R28, R29); a CANCELLED job does not pass through it (R30, R37). -/
def stageOne (m : WordMem) : Journey → StageOne
  | .complete e x => stageOnePair m e.station.toNat x.station.toNat
  | .correction e x _ => stageOnePair m e.station.toNat x.station.toNat
  | .cancelled e _ => ⟨0, e.station.toNat, e.station.toNat, false⟩
  | .unmatched x =>
    ⟨derivedDistance m x.station.toNat, derivedStation m x.station.toNat, x.station.toNat, false⟩
  | .incomplete e | .expired e | .displaced e =>
    ⟨derivedDistance m e.station.toNat, e.station.toNat, derivedStation m e.station.toNat, false⟩

/-- Stage 2: the base charge A in millicents (R31). -/
def baseCharge (m : WordMem) (d : Nat) : Nat :=
  boardingCharge m * 1000 +
    ((List.range (tierCount m)).map fun i => tierLength m d (i + 1) * tierRate m (i + 1)).sum

/-- Stage 3: one scaling by a Q2.14 factor, halves rounded up (R32, R33). -/
def scaleBy (a factor : Nat) : Nat := (a * factor + 8192) / 16384

/-- Stage 4: millicents to cents, halves rounded up (R34). -/
def toCents (a : Nat) : Nat := (a + 500) / 1000

/-- Stage 4: the stepped fare, by rounding mode 0 NEAREST, 1 UP, 2 DOWN (R35). -/
def steppedFare (mode step c : Nat) : Nat :=
  if mode = 0 then (c + step / 2) / step * step
  else if mode = 1 then (c + step - 1) / step * step
  else c / step * step

/-- Stage 4: the fare (R36). -/
def clampedFare (m : WordMem) (classFactor q : Nat) : Nat :=
  if classFactor = 0 then 0 else min (maxFare m) (max (minFare m) q)

/-- The time whose band sets the band factor (Table 2-3). -/
def referenceTime : Journey → LineTime
  | .unmatched x => x.time
  | j => ((j.entry?).getD default).time

/-- The class factor's product, before its division: the last contents of the 56-bit intermediate (R33). -/
def classProduct (m : WordMem) (journey : Journey) (cls : Octet) : Nat :=
  scaleBy (baseCharge m (stageOne m journey).distance) (bandFactorAt m (referenceTime journey)) * classFactor m cls + 8192

/-- The scaled charge A2 in millicents (R32, R33). -/
def scaledCharge (m : WordMem) (journey : Journey) (cls : Octet) : Nat :=
  scaleBy (scaleBy (baseCharge m (stageOne m journey).distance) (bandFactorAt m (referenceTime journey)))
    (classFactor m cls)

/-- The fare F of a job (R28 to R37): 0 for a CANCELLED job. -/
def fareOf (m : WordMem) (journey : Journey) (cls : Octet) : Nat :=
  match journey with
  | .cancelled _ _ => 0
  | j =>
    clampedFare m (classFactor m cls)
      (steppedFare (roundingMode m) (fareStep m) (toCents (scaledCharge m j cls)))

/-- What stages 1 to 4 hand on (R38). -/
def computeFare (m : WordMem) (journey : Journey) (cls : Octet) : FareResult :=
  let one := stageOne m journey
  ⟨one.distance, one.pathStart, one.pathEnd, fareOf m journey cls, version m⟩

end Sys2Proof.Machine
end

