-- ==== Sys2Proof/Machine/Charge.lean ====
section
/-!
DEFINITION. Stages 5 and 6 (spec/03_charging_and_apportionment.md): the charge under the daily cap, the path and its
owners, and the division of the amount.
-/

namespace Sys2Proof.Machine

open Sys2Proof

/-! ### Stage 5 (R42 to R44) -/

/-- What stage 5 finds: the charge, the settlement's amount, the spend written and reported, the journeys of the day
and the room after. -/
structure Charge where
  charge : Nat
  amount : Int
  spentAfter : Nat
  journeys : Nat
  roomAfter : Nat
  deriving DecidableEq, Repr

/-- The cap room under cap `k` with spend `s`; 65535 is uncapped (R42). -/
def capRoom (k s : Nat) : Nat := if k = 65535 then 65535 else k - s

/-- Stage 5 of a tracked job that is no CORRECTION (R42). -/
def chargeTracked (k fare spent journeys : Nat) : Charge :=
  let g := min fare (capRoom k spent)
  let s' := min 65535 (spent + g)
  ⟨g, g, s', min 255 (journeys + 1), capRoom k s'⟩

/-- Stage 5 of a tracked CORRECTION (R43). -/
def chargeCorrection (k fare old spent journeys : Nat) : Charge :=
  let s0 := spent - old
  let g := min fare (capRoom k s0)
  let s' := min 65535 (s0 + g)
  ⟨g, (g : Int) - (old : Int), s', journeys, capRoom k s'⟩

/-- Stage 5 of an untracked job (R44). -/
def chargeUntracked (fare : Nat) : Charge := ⟨fare, fare, 0, 0, 65535⟩

/-! ### Stage 6: path and owners (R55 to R57) -/

/-- An interval [lo, hi) of chainage on one branch (R55). -/
structure Span where
  branch : Nat
  lo : Nat
  hi : Nat
  deriving DecidableEq, Repr

/-- The spans of the path between two stations (Table 3-5). -/
def pathSpans (m : WordMem) (s t : Nat) : List Span :=
  let b1 := stationBranch m s
  let b2 := stationBranch m t
  let c1 := stationChainage m s
  let c2 := stationChainage m t
  if b1 = b2 then [⟨b1, min c1 c2, max c1 c2⟩]
  else if b1 = 0 then
    [⟨0, min c1 (junction m b2), max c1 (junction m b2)⟩, ⟨b2, 0, c2⟩]
  else if b2 = 0 then
    [⟨0, min c2 (junction m b1), max c2 (junction m b1)⟩, ⟨b1, 0, c1⟩]
  else
    [⟨0, min (junction m b1) (junction m b2), max (junction m b1) (junction m b2)⟩, ⟨b1, 0, c1⟩, ⟨b2, 0, c2⟩]

/-- The length of the overlap of a territory with a span on its branch (R56). -/
def overlapLength (m : WordMem) (span : Span) (t : Nat) : Nat :=
  min (territoryTo m t) span.hi - max (territoryFrom m t) span.lo

/-- The length of a span that operator 1..3 owns (R56). -/
def spanOwned (m : WordMem) (k : Nat) (span : Span) : Nat :=
  ((List.range (territoryCount m)).map fun t =>
    if territoryBranch m t = span.branch ∧ territoryOperator m t = k then overlapLength m span t else 0).sum

/-- The owned length of operator `k` on the spans, 1..3; 0 at or above the operator count (R56). -/
def ownedByOther (m : WordMem) (spans : List Span) (k : Nat) : Nat :=
  if k < operatorCount m then (spans.map (spanOwned m k)).sum else 0

/-- The path length P (R56). -/
def pathLength (spans : List Span) : Nat := (spans.map fun p => p.hi - p.lo).sum

/-- The owned lengths of operators 0..3: operator 0 receives the rest of every span (R56). -/
def ownedLengths (m : WordMem) (spans : List Span) : List Nat :=
  let d1 := ownedByOther m spans 1
  let d2 := ownedByOther m spans 2
  let d3 := ownedByOther m spans 3
  [pathLength spans - (d1 + d2 + d3), d1, d2, d3]

/-- Folds the disabled channels 1..3 into operator 0 (R57). -/
def foldChannels (channels : BitVec 4) (d : List Nat) : List Nat :=
  let lost := fun k => if channels.getLsbD k then 0 else d.getD k 0
  let kept := fun k => if channels.getLsbD k then d.getD k 0 else 0
  [d.getD 0 0 + (lost 1 + lost 2 + lost 3), kept 1, kept 2, kept 3]

/-! ### Stage 6: division (R58, R59) -/

/-- The first share of operator `k` (R58, step 1). -/
def firstShare (a : Nat) (d : List Nat) (k : Nat) : Nat := a * d.getD k 0 / d.sum

/-- The remainder of operator `k` (R58, step 1). -/
def shareRemainder (a : Nat) (d : List Nat) (k : Nat) : Nat := a * d.getD k 0 % d.sum

/-- The leftover L (R58, step 2). -/
def leftover (a : Nat) (d : List Nat) : Nat := a - ((List.range d.length).map (firstShare a d)).sum

/-- How many operators are served a further cent before operator `k`: those with a greater remainder, and of equal
ones the lower numbers (R58, step 3). -/
def servedBefore (a : Nat) (d : List Nat) (k : Nat) : Nat :=
  ((List.range d.length).filter fun j =>
    decide (0 < d.getD j 0 ∧
      (shareRemainder a d k < shareRemainder a d j ∨ (shareRemainder a d k = shareRemainder a d j ∧ j < k)))).length

/-- The final share of operator `k`, without its sign (R58, step 3). -/
def finalShare (a : Nat) (d : List Nat) (k : Nat) : Nat :=
  firstShare a d k + if servedBefore a d k < leftover a d then 1 else 0

/-- The sign of the amount put to a share (R58, step 4). -/
def signedShare (amount : Int) (share : Nat) : Int := if amount < 0 then -(share : Int) else share

/-- The shares by the largest remainder, one entry for each operator that owns part of the path (R58). -/
def divideAmount (amount : Int) (d : List Nat) : List Share :=
  ((List.range d.length).filter fun k => decide (0 < d.getD k 0)).map fun k =>
    ⟨k, signedShare amount (finalShare amount.natAbs d k)⟩

/-- The station whose owner takes the whole amount where the path has no length (R59). -/
def zeroPathStation (journey : Journey) : Nat :=
  match journey with
  | .unmatched x => x.station.toNat
  | j => ((j.entry?).getD default).station.toNat

/-- Stage 6 (R55 to R59). -/
def apportion (m : WordMem) (channels : BitVec 4) (journey : Journey) (result : FareResult) (amount : Int) :
    List Share :=
  let spans := pathSpans m result.pathStart result.pathEnd
  if pathLength spans = 0 then
    let owner := stationOwner m (zeroPathStation journey)
    [⟨if owner = 0 ∨ channels.getLsbD owner then owner else 0, amount⟩]
  else divideAmount amount (foldChannels channels (ownedLengths m spans))

end Sys2Proof.Machine
end

