-- ==== Sys2Proof/Machine/Check.lean ====
section
/-!
DEFINITION. The activation check (R149, Table 8-4): the checksum, the ten tested steps in order, and the words of the
derived column that step 11 writes (R150).
-/

namespace Sys2Proof.Machine

open Sys2Proof

/-- The word offset is counted by the checksum: a word of the bank outside the derived area (R2, R137). -/
def countedOffset (offset : Nat) : Bool := offset < 16384 && !(1536 ≤ offset && offset < 1600)

/-- The sum modulo 2^32 of every word of the bank except the derived area (R2): the listed words, and the cleared
word for each of the 16320 counted offsets that is not listed. -/
def checksum (m : WordMem) : Word :=
  let counted := m.filter fun e => countedOffset e.1
  counted.foldl (fun sum e => sum + e.2) 0 + BitVec.ofNat 32 (16320 - counted.length) * Config.clearedWord

/-- `lo ≤ x ≤ hi`. -/
def inRange (x lo hi : Nat) : Bool := lo ≤ x && x ≤ hi

/-- `f` strictly increases over 0..n-1. -/
def strictlyIncreases (n : Nat) (f : Nat → Nat) : Bool := (List.range (n - 1)).all fun i => f i < f (i + 1)

/-- Step 2. -/
def countsInRange (m : WordMem) : Bool :=
  inRange (stationCount m) 2 64 && inRange (branchCount m) 0 3 && inRange (tierCount m) 1 6 &&
  inRange (operatorCount m) 1 4 && inRange (overrideCount m) 0 64 && inRange (holidayCount m) 0 16 &&
  inRange (territoryCount m) 0 16 && inRange (denyCount m) 0 4096 && inRange (bandCount m 0) 1 8 &&
  inRange (bandCount m 1) 1 8 && inRange (bandCount m 2) 1 8

/-- Step 3. -/
def parametersInRange (m : WordMem) : Bool :=
  inRange (boardingCharge m) 0 65535 && inRange (minFare m) 0 65535 && inRange (maxFare m) 0 65535 &&
  inRange (fareStep m) 1 100 && inRange (roundingMode m) 0 2 && minFare m ≤ maxFare m &&
  inRange (weekdayOffset m) 0 6 && inRange (maxJourneyDuration m) 600 28800 &&
  inRange (cancelWindow m) 0 3600 && inRange (debounceWindow m) 1 60 &&
  inRange (correctionWindow m) 0 14400 && inRange (lateLimit m) 60 86400 &&
  (List.range 7).all fun w => inRange (dayTypeMap m w) 0 2

/-- Step 4. -/
def stationBranchesInForce (m : WordMem) : Bool :=
  (List.range (stationCount m)).all fun s => stationBranch m s ≤ branchCount m

/-- Step 5: the boundaries of the tiers below the last; the last tier's own is not tested. -/
def tiersIncrease (m : WordMem) : Bool := strictlyIncreases (tierCount m - 1) fun i => tierBoundary m (i + 1)

/-- Step 6. -/
def bandsIncrease (m : WordMem) : Bool :=
  (List.range 3).all fun d => bandStart m d 0 == 0 && strictlyIncreases (bandCount m d) (bandStart m d)

/-- Step 7. -/
def holidaysIncrease (m : WordMem) : Bool := strictlyIncreases (holidayCount m) (holiday m)

/-- Step 8. -/
def overridesInOrder (m : WordMem) : Bool :=
  ((List.range (overrideCount m)).all fun p => overrideA m p < overrideB m p && overrideB m p < stationCount m) &&
  (List.range (overrideCount m - 1)).all fun p =>
    overrideA m p < overrideA m (p + 1) ||
      (overrideA m p == overrideA m (p + 1) && overrideB m p < overrideB m (p + 1))

/-- Two territories overlap: some chainage of one branch lies in both (R149). -/
def territoriesOverlap (m : WordMem) (t u : Nat) : Bool :=
  territoryBranch m t == territoryBranch m u &&
    territoryFrom m t < territoryTo m u && territoryFrom m u < territoryTo m t

/-- Step 9. -/
def territoriesSound (m : WordMem) : Bool :=
  ((List.range (territoryCount m)).all fun t =>
    territoryFrom m t < territoryTo m t && territoryBranch m t ≤ branchCount m &&
      territoryOperator m t < operatorCount m) &&
  (List.range (territoryCount m)).all fun t => (List.range t).all fun u => !territoriesOverlap m t u

/-- Step 10. -/
def denyListSound (m : WordMem) : Bool :=
  ((List.range (denyCount m)).all fun i => denyToken m i != 0) &&
  strictlyIncreases (denyCount m) fun i => (denyToken m i).toNat

/-- The steps of Table 8-4 that have a condition, in order, each with its code. -/
def checkSteps : List (Nat × (WordMem → Bool)) :=
  [(1, fun m => checksum m == 0), (2, countsInRange), (3, parametersInRange), (4, stationBranchesInForce),
   (5, tiersIncrease), (6, bandsIncrease), (7, holidaysIncrease), (8, overridesInOrder), (9, territoriesSound),
   (10, denyListSound)]

/-- The code of the first of the steps whose condition fails; none where all hold. -/
def firstFailure : List (Nat × (WordMem → Bool)) → WordMem → Option Nat
  | [], _ => none
  | (code, holds) :: rest, m => if holds m then firstFailure rest m else some code

/-- The code of the first step whose condition fails; none where steps 1 to 10 hold. -/
def checkFailure (m : WordMem) : Option Nat := firstFailure checkSteps m

/-- The word of the derived column for station `s` (R150, Table 9-10): bits 23..16 the farthest station, bits 15..0
the farthest distance; the cleared word for a station not in force. Bits 31..24 of a station in force, which no rule
gives, are a free value (DESIGN CHOICE, log 28). -/
def derivedWord (m : WordMem) (s : Nat) : Word :=
  if s < stationCount m then
    BitVec.ofNat 32
      ((Config.derivedSpare s).toNat * 16777216 + (farthest m s).2 % 256 * 65536 + (farthest m s).1 % 65536)
  else Config.clearedWord

/-- The bank's words with the derived column written for stations `lo` to `hi - 1` (step 11 of Table 8-4). The column
is computed from the words outside the derived area, so a part of it written before makes no difference. -/
def writeDerived (m : WordMem) (lo hi : Nat) : WordMem :=
  writeWords m (1536 + lo) ((List.range (hi - lo)).map fun i => derivedWord m (lo + i))

end Sys2Proof.Machine
end

