-- ==== Sys2Proof/Machine/State.lean ====
section
/-!
DEFINITION. The state of the part: everything the manual gives its blocks, as plain data, and the state after reset.
The defaults of the fields are their values after a power-up of a part as delivered; INVENTORY.md, under State, names
the rule or the log entry of each.
-/

namespace Sys2Proof.Machine

open Sys2Proof

/-- The Line Clock (R127, R128, R130, R131). -/
structure Clock where
  set : Bool := false
  lineSeconds : LineTime := 0
  phase : Nat := 0
  length : Nat := 10000000
  msDivider : Nat := 0
  trim : Int := 0
  trimDescriptor : BitVec 16 := 0
  deriving DecidableEq, Repr

/-- One bank: its words (R137), its part of the store descriptor (R138), its reference count (R152), and how many
words of its derived column the check in flight has written, 0..63 (R144, R150). -/
structure Bank where
  words : WordMem := []
  state : BankState := .staging
  activation : Option LineTime := none
  checkCode : Nat := 0
  refs : Nat := 0
  derivedDone : Nat := 0
  deriving DecidableEq, Repr

/-- The clear in flight (R139): bank, segment, the units it has reached, and the reply entry that waits for it. -/
structure Clear where
  bank : BankId
  segment : Nat
  reached : Nat
  reply : Nat
  deriving DecidableEq, Repr

/-- The Table Store. The load pointer is a bank and a word offset 0..16384 (R143). -/
structure TableStore where
  bankA : Bank := {}
  bankB : Bank := {}
  pointerBank : BankId := .A
  pointerOffset : Nat := 0
  clear : Option Clear := none
  deriving DecidableEq, Repr

/-- The hold arbiter (R73): each of the three holders has at most one request or hold. -/
structure Holds where
  fau : Hold := .none
  matcher : Hold := .none
  sweeper : Hold := .none
  deriving DecidableEq, Repr

/-- The Tap Matcher (R82, R86). -/
structure Matcher where
  readiness : Readiness := .starting
  work : MatcherWork := .none
  frame : Option FrameInWork := none
  deriving DecidableEq, Repr

/-- The slot arbiter (R22): the two requests and the slots reserved for each requester. The slots that hold a job are
the FAU's job queue. -/
structure Slots where
  matcherRequest : SlotRequest := .none
  sweeperRequest : SlotRequest := .none
  matcherReserved : Nat := 0
  sweeperReserved : Nat := 0
  deriving DecidableEq, Repr

/-- The Fare Arithmetic Unit (R19, R21, R27, R31, R51, R57). Its accumulator and intermediate hold contents in COMPUTING
alone, and 0 otherwise (R38, log 19). -/
structure Fau where
  state : FauState := .idle
  jobs : List Job := []
  tag : BitVec 16 := 0
  channels : BitVec 4 := 15
  serial : Word := 0
  accumulator : BitVec 40 := 0
  intermediate : BitVec 56 := 0
  deriving DecidableEq, Repr

/-- The Expiry Sweeper (R110), with the start pass (R122, R124). -/
structure Sweeper where
  state : SweepState := .startPass
  mode : SweepMode := .continuous
  pause : BitVec 16 := 20
  pointer : Nat := 0
  round : Nat := 0
  passCounter : Word := 0
  passComplete : Bool := false
  burstDone : Nat := 0
  ticks : Nat := 0
  passKind : PassKind := .powerUp
  passBucket : Nat := 0
  passWay : Nat := 0
  deriving DecidableEq, Repr

/-- The Station Port (R160 to R165). `turnVerdicts` says the turn names verdicts. -/
structure StationPort where
  intake : List Frame := []
  verdicts : List VerdictSlot := List.replicate Config.verdictSlots {}
  readySlots : List Nat := []
  passDown : List Frame := []
  intakeCondition : Bool := false
  forwardCondition : Bool := false
  farEndPause : Bool := false
  turnVerdicts : Bool := true
  sending : Option StationSending := none
  awaitsBoundary : Bool := false
  deriving DecidableEq, Repr

/-- The Office Port (R160 to R163, R166). `turnSettlements` says the turn names settlements. -/
structure OfficePort where
  intake : List Frame := []
  settlements : List Settlement := []
  replies : List ReplyEntry := List.replicate Config.replyEntries {}
  readyReplies : List Nat := []
  passUp : List Frame := []
  intakeCondition : Bool := false
  forwardCondition : Bool := false
  farEndPause : Bool := false
  turnSettlements : Bool := true
  sending : Option OfficeSending := none
  awaitsBoundary : Bool := false
  deriving DecidableEq, Repr

/-- The fault capture record (R178). The detail is its two halves (Table 9-9). -/
structure FaultCapture where
  kind : FaultKind := .none
  lineTime : LineTime := 0
  source : Octet := 0
  detailHigh : BitVec 16 := 0
  detailLow : BitVec 16 := 0
  since : BitVec 16 := 0
  deriving DecidableEq, Repr

/-- The seven counters (R181). -/
structure Counters where
  tapsTaken : Word := 0
  tapsRefused : Word := 0
  duplicates : Word := 0
  settlementsEmitted : Word := 0
  evictions : Word := 0
  displacements : Word := 0
  framesDiscarded : Word := 0
  deriving DecidableEq, Repr

/-- The Management Responder (R170, R178, R181, R182) and the discarded settlement count (R167). `restartPending` is
the entry of the RESTART reply whose transmission the restart waits for. -/
structure Responder where
  inWork : Option RequestInWork := none
  restartPending : Option Nat := none
  fault : FaultCapture := {}
  counters : Counters := {}
  discardedSettlements : Nat := 0
  deriving DecidableEq, Repr

/-- The part. `table` lists the occupied ways of the Token Table, way `w` of bucket `b` under the number 8b + w.
`dramWritten` is the number of buckets, from 0 up, that have been written since the last power-up: the others hold
what a power-up leaves (R80). `freeCount` and `pending` are the model's own: the uses of free values so far, and the
commands that wait, first in, first out. -/
structure State where
  clock : Clock := {}
  store : TableStore := {}
  table : List (Nat × TokenRecord) := []
  dramWritten : Nat := 0
  bucketCount : Nat := 4096
  node : Octet := 1
  holds : Holds := { sweeper := .held 0 {} }
  matcher : Matcher := {}
  slots : Slots := {}
  fau : Fau := {}
  sweeper : Sweeper := {}
  station : StationPort := {}
  office : OfficePort := {}
  responder : Responder := {}
  freeCount : Nat := 0
  pending : List Instr := []
  deriving DecidableEq, Repr

/-- Faults. There are none: the manual names nothing that stops the part. -/
inductive Fault
  deriving DecidableEq, Repr

/-- Refusals. -/
inductive Refusal
  /-- Raised by `exec` alone, for a command that has no meaning yet. Safe: the run stops. No command raises it. -/
  | notModelled (mnemonic : String)
  deriving DecidableEq, Repr

/-- What a command comes to. -/
abbrev Result := Host.Outcome State Fault Refusal

/-- The part as delivered, right after its power-up: every block at its power-up value, the power-up start pass at
bucket 0, no command waiting (log 9). -/
def State.reset : State := {}

end Sys2Proof.Machine
end

