-- ==== Sys2Proof/Machine/Operands.lean ====
section
/-!
DEFINITION. The fields of the octets that come in: the frame (R157, Table 9-1) and its check (R158), the tap frame
(Table 9-2), the request (R171, Tables 9-5 and 10-1). A field of more than one octet is most significant octet first.
-/

namespace Sys2Proof.Machine

open Sys2Proof

/-! ### Octets and numbers -/

/-- The number of some octets, most significant first (R157). -/
def octetsToNat (octets : List Octet) : Nat := octets.foldl (fun n o => n * 256 + o.toNat) 0

/-- A number as `n` octets, most significant first (R168). -/
def natToOctets (n value : Nat) : List Octet :=
  (List.range n).map fun i => BitVec.ofNat 8 (value / 256 ^ (n - 1 - i))

/-- A signed number as `n` octets in two's complement (R168). -/
def intToOctets (n : Nat) (value : Int) : List Octet := natToOctets n (value % (256 ^ n : Nat)).toNat

/-- The number in `n` octets from place `i`. -/
def fieldAt (octets : List Octet) (i n : Nat) : Nat := octetsToNat ((octets.drop i).take n)

/-- The octet at a place, or 0 where none is. -/
def octetAt (octets : List Octet) (i : Nat) : Octet := octets.getD i 0

/-! ### The check (R158) -/

/-- One bit of the check: the register shifted by one, and the polynomial x^16 + x^12 + x^5 + 1 added where the bit
that leaves differs from the bit that enters. -/
def crcBit (r : BitVec 16) (bit : Bool) : BitVec 16 :=
  if (r.getLsbD 15 != bit) then (r <<< 1) ^^^ 0x1021 else r <<< 1

/-- One octet of the check, most significant bit first. -/
def crcOctet (r : BitVec 16) (o : Octet) : BitVec 16 :=
  [7, 6, 5, 4, 3, 2, 1, 0].foldl (fun r i => crcBit r (o.getLsbD i)) r

/-- The check of some octets, with initial value 65535 and no inversion. -/
def crc (octets : List Octet) : BitVec 16 := octets.foldl crcOctet 0xFFFF

/-! ### The frame (Table 9-1) -/

def frameKind (f : Frame) : Octet := octetAt f 0
def frameDest (f : Frame) : Octet := octetAt f 1
def frameSource (f : Frame) : Octet := octetAt f 2
def frameSequence (f : Frame) : BitVec 16 := BitVec.ofNat 16 (fieldAt f 3 2)
/-- The payload length field. -/
def frameLength (f : Frame) : Nat := fieldAt f 5 2
def framePayload (f : Frame) : List Octet := (f.drop 7).take (f.length - 9)
/-- The check received: the last two octets. -/
def frameCheck (f : Frame) : Nat := fieldAt f (f.length - 2) 2

/-- The frame is well formed (R157). -/
def frameWellFormed (f : Frame) : Bool :=
  9 ≤ f.length && frameLength f ≤ 1024 && f.length == 9 + frameLength f &&
    (crc (f.take (f.length - 2))).toNat == frameCheck f

/-- The kind codes of Table 9-1. -/
def kindTap : Octet := 1
def kindVerdict : Octet := 2
def kindSettlement : Octet := 3
def kindRequest : Octet := 4
def kindReply : Octet := 5

/-- A frame the engine builds: header, payload and check (R163, R168). -/
def buildFrame (kind dest source : Octet) (sequence : BitVec 16) (payload : List Octet) : Frame :=
  let body := [kind, dest, source] ++ natToOctets 2 sequence.toNat ++ natToOctets 2 payload.length ++ payload
  body ++ natToOctets 2 (crc body).toNat

/-! ### The tap frame (R85, R87, Table 9-2) -/

/-- The direction codes of Table 9-2. -/
def directionEntry : Octet := 1
def directionExit : Octet := 2
def directionEither : Octet := 3

/-- One tap record from its 16 octets. -/
def readTapRecord (o : List Octet) : TapRecord :=
  ⟨BitVec.ofNat 64 (fieldAt o 0 8), octetAt o 8, octetAt o 9, octetAt o 10, octetAt o 11,
    BitVec.ofNat 32 (fieldAt o 12 4)⟩

/-- The record count of a tap frame. -/
def tapCount (payload : List Octet) : Nat := (octetAt payload 0).toNat

/-- The tap frame is malformed as a whole (R85). -/
def tapFrameMalformed (payload : List Octet) : Bool :=
  tapCount payload == 0 || 4 < tapCount payload || payload.length != 1 + 16 * tapCount payload

/-- The tap records of a tap frame, in frame order. -/
def tapRecords (payload : List Octet) : List TapRecord :=
  (List.range (tapCount payload)).map fun i => readTapRecord ((payload.drop (1 + 16 * i)).take 16)

/-- The record is malformed (R87). -/
def tapMalformed (t : TapRecord) : Bool :=
  t.token == 0 || !(t.direction == directionEntry || t.direction == directionExit || t.direction == directionEither) ||
    7 < t.cls.toNat

/-! ### The request (R171, Table 10-1) -/

/-- The argument octets of a request code 1..20; none for any other code (Table 10-1). -/
def argumentOctets (code : Nat) : Option Nat :=
  if code = 0 then none
  else [0, 4, 2, 2, 19, 16, 3, 3, 5, 0, 0, 5, 0, 0, 8, 10, 1, 0, 0, 0][code - 1]?

/-- The request's code, or 0 where the payload is empty (R171). -/
def requestCode (payload : List Octet) : Octet := octetAt payload 0

/-- The request's tag; 0 where the payload is shorter than 3 octets (R171). -/
def requestTag (payload : List Octet) : BitVec 16 :=
  if payload.length < 3 then 0 else BitVec.ofNat 16 (fieldAt payload 1 2)

/-- The request's arguments. -/
def requestArguments (payload : List Octet) : List Octet := payload.drop 3

/-- The payload passes the Responder's checks (R171). -/
def requestKnown (payload : List Octet) : Bool :=
  3 ≤ payload.length &&
    match argumentOctets (requestCode payload).toNat with
    | some n => payload.length == 3 + n
    | none => false

/-- The bank a bank octet names (spec/09, 9.6). -/
def bankOf (o : Octet) : Option BankId := if o = 0 then some .A else if o = 1 then some .B else none

/-- The four words of a unit in the arguments, from place `i`. -/
def fourWords (args : List Octet) (i : Nat) : List Word :=
  (List.range 4).map fun k => BitVec.ofNat 32 (fieldAt args (i + 4 * k) 4)

/-- A signed 16-bit argument. -/
def signedField (args : List Octet) (i : Nat) : Int := (BitVec.ofNat 16 (fieldAt args i 2)).toInt

/-- The fold of a token: its four 16-bit quarters combined by exclusive-or (R66). -/
def tokenFold (t : Token) : BitVec 16 :=
  t.extractLsb' 48 16 ^^^ t.extractLsb' 32 16 ^^^ t.extractLsb' 16 16 ^^^ t.extractLsb' 0 16

end Sys2Proof.Machine
end

