-- ==== Sys2Proof/Machine/Flags.lean ====
section
/-!
DEFINITION. Flags, codes and the octets that go out: the settlement and verdict flags, the codes of Table 9-9, and the
payloads of verdict, settlement and reply frames (Tables 9-3, 9-4, 9-6, 9-7, 9-8). Bits that name no flag, and octets
the result leaves without meaning, are 0 (R168).
-/

namespace Sys2Proof.Machine

open Sys2Proof

/-- 1 or 0. -/
def bit (b : Bool) : Nat := if b then 1 else 0

/-! ### Flags -/

/-- The settlement flags as two octets' number (Table 9-4). -/
def SettleFlags.toNat (f : SettleFlags) : Nat :=
  bit f.entryClamped + 2 * bit f.exitClamped + 4 * bit f.exitBeforeEntry + 8 * bit f.late + 16 * bit f.capUntracked +
    32 * bit f.assisted + 64 * bit f.overrideUsed + 128 * bit f.resubmitted + 256 * bit f.provisional

/-- The verdict flags as one octet's number (Table 9-3). -/
def VerdictFlags.toNat (f : VerdictFlags) : Nat :=
  bit f.clamped + 2 * bit f.late + 4 * bit f.previousClosed + 8 * bit f.exitBeforeEntry

/-- The flags a job takes from the open part it closes (R97, R100, R117). -/
def entryFlags (o : OpenPart) : SettleFlags := { entryClamped := o.timeClamped, late := o.late }

/-- The flags a job takes from the exit tap: its marks and whether its time was raised (R99, R103, R104). -/
def exitFlags (h : Handling) (raised : Bool) : SettleFlags :=
  { exitClamped := h.clamped, late := h.late, exitBeforeEntry := raised }

/-- Two sets of flags together. -/
def SettleFlags.union (f g : SettleFlags) : SettleFlags :=
  { entryClamped := f.entryClamped || g.entryClamped, exitClamped := f.exitClamped || g.exitClamped,
    exitBeforeEntry := f.exitBeforeEntry || g.exitBeforeEntry, late := f.late || g.late,
    capUntracked := f.capUntracked || g.capUntracked, assisted := f.assisted || g.assisted,
    overrideUsed := f.overrideUsed || g.overrideUsed, resubmitted := f.resubmitted || g.resubmitted,
    provisional := f.provisional || g.provisional }

/-- The verdict flags of a tap's marks (R90). -/
def markFlags (h : Handling) : VerdictFlags := { clamped := h.clamped, late := h.late }

/-! ### Codes (Tables 9-3, 9-4, 9-9) -/

def VerdictKind.code : VerdictKind → Nat
  | .entered => 1
  | .exited => 2
  | .cancelled => 3
  | .corrected => 4
  | .unmatched => 5
  | .duplicate => 6
  | .denied => 7
  | .unknownStation => 8
  | .stationClosed => 9
  | .notReady => 10
  | .malformed => 11

def Journey.code : Journey → Nat
  | .complete _ _ => 1
  | .cancelled _ _ => 2
  | .incomplete _ => 3
  | .unmatched _ => 4
  | .correction _ _ _ => 5
  | .expired _ => 6
  | .displaced _ => 7

def Status.code : Status → Nat
  | .done => 0
  | .busy => 1
  | .badArgument => 2
  | .notCleared => 3
  | .isProtected => 4
  | .inUse => 5
  | .notFound => 6
  | .notReady => 7
  | .badState => 8

def BankId.code : BankId → Nat
  | .A => 0
  | .B => 1

def BankState.code : BankState → Nat
  | .staging => 0
  | .scheduled => 1
  | .checking => 2
  | .active => 3
  | .retiring => 4

def Readiness.code : Readiness → Nat
  | .starting => 0
  | .waiting => 1
  | .ready => 2

def FauStanding.code : FauStanding → Nat
  | .idle => 0
  | .computing => 1
  | .waitSettlement => 2
  | .waitHold => 3
  | .writeBack => 4

def MatcherStanding.code : MatcherStanding → Nat
  | .idle => 0
  | .waitVerdictSlot => 1
  | .judging => 2
  | .waitReservation => 3
  | .waitHold => 4
  | .holding => 5
  | .waitToken => 6
  | .waitBucket => 7
  | .waitSecondReservation => 8

def SweepState.code : SweepState → Nat
  | .idle => 0
  | .burst => 1
  | .pause => 2
  | .waitSlot => 3
  | .stopping => 4
  | .startPass => 5

def SweepMode.code : SweepMode → Nat
  | .single => 0
  | .continuous => 1

def FaultKind.code : FaultKind → Nat
  | .none => 0
  | .writeProtected => 1
  | .writeNotCleared => 2
  | .activationFailed => 3
  | .recordDisplaced => 4
  | .unknownStation => 5
  | .frameCheck => 6

/-- The reference held by a closing part (Table 9-7). -/
def Reference.code : Reference → Nat
  | .none => 0
  | .verdict _ _ => 1
  | .reply _ => 2

/-! ### The states of the FAU and the Matcher (Tables 2-1 and 5-2) -/

/-- The holder has been granted its bucket (R73). -/
def Hold.isHeld : Hold → Bool
  | .held _ _ => true
  | _ => false

/-- The FAU's state: the grant of the bucket takes it from WAIT_HOLD to WRITE_BACK (R19, Table 2-1). -/
def State.fauStanding (s : State) : FauStanding :=
  match s.fau.state with
  | .idle => .idle
  | .computing _ => .computing
  | .waitSettlement _ _ => .waitSettlement
  | .waitHold _ _ => if s.holds.fau.isHeld then .writeBack else .waitHold

/-- A Matcher with nothing in work: JUDGING while a frame is in work, WAIT_VERDICT_SLOT while it has a frame to take and
no verdict slot is free (R84), and IDLE otherwise. -/
def State.idleStanding (s : State) : MatcherStanding :=
  if s.matcher.frame.isSome then .judging
  else if !s.station.intake.isEmpty && !s.station.verdicts.any (fun v => v.state == .free) then .waitVerdictSlot
  else .idle

/-- The Matcher's work state: the grant of the bucket takes it from WAIT_HOLD to HOLDING (R86, R91, Table 5-2). -/
def State.matcherStanding (s : State) : MatcherStanding :=
  match s.matcher.work with
  | .none => s.idleStanding
  | .rejudge _ => .judging
  | .waitReservation _ => .waitReservation
  | .waitHold _ => if s.holds.matcher.isHeld then .holding else .waitHold
  | .waitToken _ => .waitToken
  | .waitBucket _ => .waitBucket
  | .waitSecond _ => .waitSecondReservation

/-! ### Payloads -/

def octetsOf8 (o : Octet) : List Octet := [o]
def octetsOf16 (w : BitVec 16) : List Octet := natToOctets 2 w.toNat
def octetsOf32 (w : BitVec 32) : List Octet := natToOctets 4 w.toNat
def octetsOf64 (w : BitVec 64) : List Octet := natToOctets 8 w.toNat

/-- Entry of a VERDICT payload (Table 9-3). -/
def verdictEntryOctets (e : VerdictEntry) : List Octet :=
  natToOctets 1 ((e.kind.map VerdictKind.code).getD 0) ++ natToOctets 1 e.flags.toNat ++ intToOctets 4 e.charge ++
    octetsOf16 e.capRoom

/-- VERDICT payload (Table 9-3). -/
def verdictPayload (v : VerdictSlot) : List Octet :=
  natToOctets 1 v.entries.length ++ v.entries.flatMap verdictEntryOctets

/-- Station, gate and time of a leg. -/
def legOctets (l : Leg) : List Octet := [l.station, l.gate] ++ octetsOf32 l.time

/-- The values of absence of Table 3-3: station 255, gate 0, time 0. -/
def absentLeg : Leg := ⟨255, 0, 0⟩

/-- SETTLEMENT payload (Table 9-4). -/
def settlementPayload (x : Settlement) : List Octet :=
  octetsOf32 x.serial ++ natToOctets 1 x.journey.code ++ natToOctets 2 x.flags.toNat ++ octetsOf64 x.token ++ [x.cls] ++
    legOctets ((x.journey.entry?).getD absentLeg) ++ [0] ++ legOctets ((x.journey.exit?).getD absentLeg) ++
    octetsOf32 x.version ++ natToOctets 2 x.distance ++ natToOctets 2 x.fare ++ intToOctets 4 x.amount ++
    octetsOf16 x.spentAfter ++ natToOctets 1 x.shares.length ++
    x.shares.flatMap fun h => natToOctets 1 h.operator ++ intToOctets 4 h.amount

/-- REPLY payload: code, tag, status, and the data of a DONE reply (R173). -/
def replyPayload (r : ReplyEntry) : List Octet :=
  [r.code] ++ octetsOf16 r.tag ++ natToOctets 1 r.status.code ++ if r.status = .done then r.data else []

/-- A bank as one octet. -/
def bankOctets (b : BankId) : List Octet := natToOctets 1 b.code

/-- The open part of a READ TOKEN reply, octets 25..33 (Table 9-7). -/
def openPartOctets : Option OpenPart → List Octet
  | none => List.replicate 9 0
  | some o =>
    legOctets o.entry ++ [o.cls] ++ bankOctets o.bank ++ natToOctets 1 (bit o.timeClamped + 2 * bit o.late)

/-- The closing part of a READ TOKEN reply, octets 34..55 (Table 9-7). Data its kind does not carry are 0. -/
def closingPartOctets : Option ClosingPart → List Octet
  | none => List.replicate 22 0
  | some c =>
    natToOctets 1 c.journey.code ++ octetsOf16 c.tag ++ bankOctets c.bank ++ [c.cls] ++
      legOctets ((c.journey.entry?).getD ⟨0, 0, 0⟩) ++ legOctets ((c.journey.exit?).getD ⟨0, 0, 0⟩) ++
      octetsOf16 ((c.journey.oldCharge?).getD 0) ++ natToOctets 1 c.ref.code ++ natToOctets 2 c.flags.toNat

/-- The recent-expiry part of a READ TOKEN reply, octets 57..70 (Table 9-7). -/
def recentPartOctets : Option RecentPart → List Octet
  | none => List.replicate 14 0
  | some p =>
    legOctets p.entry ++ [p.cls] ++ bankOctets p.bank ++ octetsOf32 p.expiryTime ++ octetsOf16 p.charged

/-- The data of a READ TOKEN reply, 71 octets (Table 9-7). -/
def tokenRecordData (r : TokenRecord) : List Octet :=
  octetsOf64 r.token ++ octetsOf16 r.spendDay ++ octetsOf16 r.spentToday ++ octetsOf8 r.journeysToday ++
    natToOctets 1 (bit r.lastTap.isSome) ++ legOctets (r.lastTap.getD ⟨0, 0, 0⟩) ++ octetsOf32 r.lastActivity ++
    natToOctets 1 (bit r.openPart.isSome + 2 * bit r.closing.isSome + 4 * bit r.recent.isSome) ++
    openPartOctets r.openPart ++ closingPartOctets r.closing ++ [0] ++ recentPartOctets r.recent

/-- The data of a STATUS reply, 60 octets (R174, Table 9-6). -/
def statusData (s : State) : List Octet :=
  octetsOf32 s.clock.lineSeconds ++ natToOctets 1 (bit s.clock.set) ++ intToOctets 2 s.clock.trim ++
    natToOctets 1 s.matcher.readiness.code ++ natToOctets 1 s.matcherStanding.code ++ natToOctets 1 s.fauStanding.code ++
    natToOctets 1 s.fau.jobs.length ++ natToOctets 1 s.sweeper.state.code ++ natToOctets 1 s.sweeper.mode.code ++ [0] ++
    octetsOf16 s.sweeper.pause ++
    natToOctets 2 (if s.sweeper.state = .startPass then s.sweeper.passBucket else s.sweeper.pointer) ++
    octetsOf32 s.sweeper.passCounter ++ natToOctets 1 (bit s.sweeper.passComplete) ++ natToOctets 2 s.bucketCount ++
    [s.node] ++ natToOctets 1 s.store.bankA.state.code ++ natToOctets 1 s.store.bankB.state.code ++
    natToOctets 1 s.responder.discardedSettlements ++ [0, 0, 0] ++
    octetsOf32 s.responder.counters.tapsTaken ++ octetsOf32 s.responder.counters.tapsRefused ++
    octetsOf32 s.responder.counters.duplicates ++ octetsOf32 s.responder.counters.settlementsEmitted ++
    octetsOf32 s.responder.counters.evictions ++ octetsOf32 s.responder.counters.displacements ++
    octetsOf32 s.responder.counters.framesDiscarded

/-- One bank of a READ BANKS reply, 14 octets (Table 9-8). No activation time is 0. -/
def bankReport (b : Bank) : List Octet :=
  natToOctets 1 b.state.code ++ octetsOf32 (b.activation.getD 0) ++ natToOctets 1 b.checkCode ++
    natToOctets 4 b.refs ++ octetsOf32 (wordAt b.words 0)

/-- The load pointer: bank and offset. -/
def pointerOctets (store : TableStore) : List Octet :=
  bankOctets store.pointerBank ++ natToOctets 2 store.pointerOffset

/-- The data of a READ BANKS reply, 33 octets (Table 9-8). -/
def banksData (store : TableStore) : List Octet :=
  bankReport store.bankA ++ bankReport store.bankB ++ pointerOctets store ++
    match store.clear with
    | some c => bankOctets c.bank ++ natToOctets 1 c.segment
    | none => [255, 255]

/-- The data of a READ FAULT reply (Table 9-5). -/
def faultData (f : FaultCapture) : List Octet :=
  natToOctets 1 f.kind.code ++ octetsOf32 f.lineTime ++ [f.source] ++ octetsOf16 f.detailHigh ++ octetsOf16 f.detailLow ++
    octetsOf16 f.since

end Sys2Proof.Machine
end

