-- ==== Sys2Proof/Machine/Ops.lean ====
section
/-!
DEFINITION. The named operations the commands share: banks and references, the Token Table and its bucket holds, job
slots and submission, verdict and reply entries, the fault capture record, the queues and their pause conditions, the
time trigger and activation, the end of a start pass, and the two resets.
-/

namespace Sys2Proof.Machine

open Sys2Proof

/-! ### Clock and banks -/

/-- The service day of a line time; it fits 16 bits (spec/00_scope.md, 4.4). -/
def dayOf (now : LineTime) : BitVec 16 := BitVec.ofNat 16 (serviceDay now)

def TableStore.bank (t : TableStore) : BankId → Bank
  | .A => t.bankA
  | .B => t.bankB

def TableStore.setBank (t : TableStore) (b : BankId) (v : Bank) : TableStore :=
  match b with
  | .A => { t with bankA := v }
  | .B => { t with bankB := v }

def State.bank (s : State) (b : BankId) : Bank := s.store.bank b

def State.setBank (s : State) (b : BankId) (v : Bank) : State := { s with store := s.store.setBank b v }

/-- The words of a bank. -/
def State.words (s : State) (b : BankId) : WordMem := (s.bank b).words

/-- The ACTIVE bank, where there is one (R146). -/
def State.activeBank (s : State) : Option BankId :=
  if s.store.bankA.state = .active then some .A
  else if s.store.bankB.state = .active then some .B
  else none

/-- A restart's start pass is running (R154). -/
def State.inRestartPass (s : State) : Bool := s.sweeper.state == .startPass && s.sweeper.passKind == .restart

/-- One reference made (R72, R93, R125). -/
def State.makeRef (s : State) (b : BankId) : State := s.setBank b { s.bank b with refs := (s.bank b).refs + 1 }

/-- One reference released (R152); it makes a RETIRING bank STAGING where its count is then 0, outside a restart's
start pass (R153). -/
def State.releaseRef (s : State) (b : BankId) : State :=
  let n := (s.bank b).refs - 1
  s.setBank b
    { s.bank b with
      refs := n
      state := if (s.bank b).state = .retiring ∧ n = 0 ∧ s.inRestartPass = false then .staging else (s.bank b).state }

/-- The release of a recent-expiry part's reference, where the part is there. -/
def State.releaseRecent (s : State) : Option RecentPart → State
  | some p => s.releaseRef p.bank
  | none => s

/-! ### Fault capture and counters -/

/-- A fault capture attempt (R178): captured where the record is NONE, else counted. -/
def FaultCapture.attempt (f : FaultCapture) (kind : FaultKind) (time : LineTime) (source : Octet)
    (high low : Nat) : FaultCapture :=
  if f.kind = .none then ⟨kind, time, source, BitVec.ofNat 16 high, BitVec.ofNat 16 low, 0⟩
  else { f with since := if f.since = 65535 then 65535 else f.since + 1 }

/-- A fault capture attempt with the line time of the clock (R179). -/
def State.capture (s : State) (kind : FaultKind) (source : Octet) (high low : Nat) : State :=
  { s with responder :=
    { s.responder with fault := s.responder.fault.attempt kind s.clock.lineSeconds source high low } }

/-- A change of the counters (R181); each wraps. -/
def State.count (s : State) (f : Counters → Counters) : State :=
  { s with responder := { s.responder with counters := f s.responder.counters } }

def Counters.addTaken (c : Counters) : Counters := { c with tapsTaken := c.tapsTaken + 1 }
def Counters.addRefused (c : Counters) : Counters := { c with tapsRefused := c.tapsRefused + 1 }
def Counters.addDuplicate (c : Counters) : Counters := { c with duplicates := c.duplicates + 1 }
def Counters.addSettlement (c : Counters) : Counters := { c with settlementsEmitted := c.settlementsEmitted + 1 }
def Counters.addEviction (c : Counters) : Counters := { c with evictions := c.evictions + 1 }
def Counters.addDisplacement (c : Counters) : Counters := { c with displacements := c.displacements + 1 }
def Counters.addDiscarded (c : Counters) : Counters := { c with framesDiscarded := c.framesDiscarded + 1 }

/-! ### The Token Table (R65 to R71) -/

/-- The number under which way `w` of bucket `b` is listed. -/
def wayKey (b w : Nat) : Nat := Config.ways * b + w

/-- The record in way `w` of bucket `b`, or none where the way is empty. -/
def State.way (s : State) (b w : Nat) : Option TokenRecord := sparseGet s.table (wayKey b w)

/-- Writes a way. -/
def State.putWay (s : State) (b w : Nat) (r : Option TokenRecord) : State :=
  { s with table := sparsePut s.table (wayKey b w) r }

/-- Writes every way of a bucket empty (R123). -/
def State.emptyBucket (s : State) (b : Nat) : State :=
  { s with table := s.table.filter fun e => !(Config.ways * b ≤ e.1 && e.1 < Config.ways * (b + 1)) }

/-- The bucket of a token: its fold mod the bucket count (R66). -/
def State.bucketOf (s : State) (t : Token) : Nat := (tokenFold t).toNat % s.bucketCount

/-- The lookup of a token's record in a bucket, with its way (R67). -/
def State.lookup (s : State) (b : Nat) (t : Token) : Option (Nat × TokenRecord) :=
  (List.range Config.ways).findSome? fun w =>
    match s.way b w with
    | some r => if r.token = t then some (w, r) else none
    | none => none

/-- The FAU's lookup: the token's record that holds a closing part with the tag (R41, R67). -/
def State.lookupClosing (s : State) (b : Nat) (t : Token) (tag : BitVec 16) :
    Option (Nat × TokenRecord × ClosingPart) :=
  (List.range Config.ways).findSome? fun w =>
    match s.way b w with
    | some r =>
      match r.closing with
      | some c => if r.token = t ∧ c.tag = tag then some (w, r, c) else none
      | none => none
    | none => none

/-- The record holds no part. -/
def TokenRecord.partless (r : TokenRecord) : Bool := r.openPart.isNone && r.closing.isNone && r.recent.isNone

/-- The record is stale on a service day (R71). -/
def TokenRecord.stale (r : TokenRecord) (day : BitVec 16) : Bool := r.partless && r.spendDay != day

/-- A new record's base fields (R60). -/
def TokenRecord.fresh (t : Token) (day : BitVec 16) (now : LineTime) : TokenRecord :=
  ⟨t, day, 0, 0, none, now, none, none, none⟩

/-- The choice of way at an insertion (Table 4-4). -/
inductive Placement
  | free (way : Nat)
  | evict (way : Nat) (record : TokenRecord)
  | displace (way : Nat) (record : TokenRecord) (part : OpenPart)
  | full
  deriving DecidableEq, Repr

/-- The first of the candidates with the smallest key: ties go to the one that stands first. -/
def oldest {α : Type} (key : α → Nat) : List α → Option α
  | [] => none
  | x :: xs =>
    match oldest key xs with
    | none => some x
    | some y => if key y < key x then some y else some x

/-- The ways of a bucket with their records, empty ways left out. -/
def State.occupied (s : State) (b : Nat) : List (Nat × TokenRecord) :=
  (List.range Config.ways).filterMap fun w => (s.way b w).map fun r => (w, r)

/-- Order 1: the lowest-numbered way that is empty or holds a stale record (R68). -/
def State.freeWay (s : State) (b : Nat) (day : BitVec 16) : Option Nat :=
  (List.range Config.ways).find? fun w =>
    match s.way b w with
    | some r => r.stale day
    | none => true

/-- Order 2: the record with neither an open nor a closing part and the oldest last activity (R68). -/
def State.evictionWay (s : State) (b : Nat) : Option (Nat × TokenRecord) :=
  oldest (fun e => e.2.lastActivity.toNat)
    ((s.occupied b).filter fun e => e.2.openPart.isNone && e.2.closing.isNone)

/-- Order 3: the record with an open part and no closing part and the oldest entry time (R69). -/
def State.displacementWay (s : State) (b : Nat) : Option (Nat × TokenRecord × OpenPart) :=
  oldest (fun e => e.2.2.entry.time.toNat)
    ((s.occupied b).filterMap fun e =>
      match e.2.openPart with
      | some o => if e.2.closing.isNone then some (e.1, e.2, o) else none
      | none => none)

/-- The choice of way at an insertion, in the order of Table 4-4 (R68 to R70). -/
def State.placement (s : State) (b : Nat) (day : BitVec 16) : Placement :=
  match s.freeWay b day with
  | some w => .free w
  | none =>
    match s.evictionWay b with
    | some (w, r) => .evict w r
    | none =>
      match s.displacementWay b with
      | some (w, r, o) => .displace w r o
      | none => .full

/-! ### Bucket holds (R73 to R76) -/

/-- The three blocks that request holds. -/
inductive Holder
  | fau
  | matcher
  | sweeper
  deriving DecidableEq, Repr

def Holds.get (h : Holds) : Holder → Hold
  | .fau => h.fau
  | .matcher => h.matcher
  | .sweeper => h.sweeper

def Holds.set (h : Holds) (who : Holder) (v : Hold) : Holds :=
  match who with
  | .fau => { h with fau := v }
  | .matcher => { h with matcher := v }
  | .sweeper => { h with sweeper := v }

/-- The block holds the bucket. -/
def Hold.holdsBucket (h : Hold) (b : Nat) : Bool :=
  match h with
  | .held c _ => c == b
  | _ => false

/-- The bucket is held. -/
def Holds.heldIn (h : Holds) (b : Nat) : Bool :=
  h.fau.holdsBucket b || h.matcher.holdsBucket b || h.sweeper.holdsBucket b

/-- A request waits for the bucket. -/
def Holds.waitedIn (h : Holds) (b : Nat) : Bool :=
  h.fau == .waiting b || h.matcher == .waiting b || h.sweeper == .waiting b

def State.setHold (s : State) (who : Holder) (v : Hold) : State := { s with holds := s.holds.set who v }

/-- A READ TOKEN waits for the bucket (R79). -/
def State.readWaits (s : State) (b : Nat) : Bool :=
  match s.responder.inWork with
  | some (.readToken t _) => s.bucketOf t == b
  | _ => false

/-- What a block granted its bucket now reads (R41, R57, R92, R116). An insertion in the hold uses it too, in place of a
reading of its own (R60, R127; DESIGN CHOICE, log 34). -/
def State.reading (s : State) : Reading := ⟨s.clock.lineSeconds, s.fau.channels⟩

/-- A hold request (R73): granted at once where the bucket is free and nothing waits for it, else it waits. Where a READ
TOKEN's read of the released bucket is still to be made, the request waits too and is granted after the read, by R74
(DESIGN CHOICE, log 30). -/
def State.requestHold (s : State) (who : Holder) (b : Nat) : State :=
  s.setHold who (if s.holds.heldIn b || s.holds.waitedIn b || s.readWaits b then .waiting b else .held b s.reading)

/-- The grant at a release: the FAU's request first, then the Matcher's, then the Sweeper's (R74). -/
def State.grantNext (s : State) (b : Nat) : State :=
  if s.holds.fau = .waiting b then s.setHold .fau (.held b s.reading)
  else if s.holds.matcher = .waiting b then s.setHold .matcher (.held b s.reading)
  else if s.holds.sweeper = .waiting b then s.setHold .sweeper (.held b s.reading)
  else s

/-- A release (R73, R74): where a READ TOKEN waits for the bucket, its read comes before the grant (R79). -/
def State.releaseHold (s : State) (who : Holder) (b : Nat) : State :=
  let s := s.setHold who .none
  if s.readWaits b then s else s.grantNext b

/-- The notice at the release of a hold that removed the closing part of token `t` from bucket `b`: a Matcher that
waits for that requests the bucket again (R76). It comes before the release, so that the request is among those that R74
orders there, ahead of a Sweeper that waits; R74 leaves open whether a request that meets the release is among them
(DESIGN CHOICE, log 33). -/
def State.notice (s : State) (b : Nat) (t : Token) : State :=
  match s.matcher.work with
  | .waitToken h =>
    if h.tap.token = t then
      { s with matcher := { s.matcher with work := .waitHold h } }.requestHold .matcher b
    else s
  | .waitBucket h =>
    if s.bucketOf h.tap.token = b then
      { s with matcher := { s.matcher with work := .waitHold h } }.requestHold .matcher b
    else s
  | _ => s

/-! ### Job slots and submission (R21 to R27) -/

/-- The free slots of the job queue. -/
def State.freeSlots (s : State) : Nat :=
  Config.jobSlots - (s.fau.jobs.length + s.slots.matcherReserved + s.slots.sweeperReserved)

/-- The Matcher's waiting request is granted a free slot (R22). -/
def State.grantMatcherSlot (s : State) : State :=
  if s.slots.matcherRequest = .waiting ∧ 0 < s.freeSlots then
    { s with slots :=
      { s.slots with matcherRequest := .granted, matcherReserved := s.slots.matcherReserved + 1 } }
  else s

/-- The Sweeper's waiting request is granted a free slot (R22). -/
def State.grantSweeperSlot (s : State) : State :=
  if s.slots.sweeperRequest = .waiting ∧ 0 < s.freeSlots then
    { s with slots :=
      { s.slots with sweeperRequest := .granted, sweeperReserved := s.slots.sweeperReserved + 1 } }
  else s

/-- The slot arbiter acts: a free slot goes to the Matcher where it waits, then to the Sweeper (R22). -/
def State.arbitrate (s : State) : State := s.grantMatcherSlot.grantSweeperSlot

/-- The Matcher asks for a reservation (R23, R24). -/
def State.requestMatcherSlot (s : State) : State :=
  { s with slots := { s.slots with matcherRequest := .waiting } }.arbitrate

/-- The Matcher returns the reservations it has not filled (R23, R106). -/
def State.returnMatcherSlots (s : State) : State :=
  { s with slots := { s.slots with matcherReserved := 0 } }.arbitrate

/-- The Sweeper leaves its slot request waiting (R25, R119). -/
def State.requestSweeperSlot (s : State) : State :=
  { s with slots := { s.slots with sweeperRequest := .waiting } }.arbitrate

/-- The Sweeper returns a reserved slot it has not filled, and withdraws a request (R25, R113, R119). -/
def State.returnSweeperSlot (s : State) : State :=
  { s with slots := { s.slots with sweeperRequest := .none, sweeperReserved := 0 } }.arbitrate

/-- The submission of a job, with the tag the counter gives; the counter then increments and wraps (R21, R27). -/
def State.submit (s : State) (job : Job) : State :=
  { s with fau := { s.fau with jobs := s.fau.jobs ++ [{ job with tag := s.fau.tag }], tag := s.fau.tag + 1 } }

/-- The Matcher fills one of its reserved slots (R23). -/
def State.submitMatcher (s : State) (job : Job) : State :=
  { s with slots := { s.slots with matcherReserved := s.slots.matcherReserved - 1 } }.submit job

/-- The Sweeper has a slot at hand: one it holds reserved, or a free one granted at once (R117). -/
def State.sweeperSlotAtHand (s : State) : Bool := 0 < s.slots.sweeperReserved || 0 < s.freeSlots

/-- The Sweeper fills the slot at hand, its reserved one first (R117, R119). -/
def State.submitSweeper (s : State) (job : Job) : State :=
  { s with slots := { s.slots with sweeperReserved := s.slots.sweeperReserved - 1 } }.submit job

/-- The job that a closing part stands for (R62). -/
def ClosingPart.job (c : ClosingPart) (t : Token) : Job := ⟨c.journey, c.tag, t, c.bank, c.cls, c.ref, c.flags⟩

/-! ### Verdict and reply entries (R53, R84, R164, R166, R170) -/

/-- The lowest-numbered free place of a list of places. -/
def freePlace {α : Type} (state : α → PlaceState) (places : List α) : Option Nat :=
  places.findIdx? fun p => state p == .free

/-- Every entry of the slot is complete. -/
def VerdictSlot.allComplete (v : VerdictSlot) : Bool := v.entries.all fun e => e.complete

/-- A claimed slot whose entries are all complete becomes ready (R164). -/
def StationPort.settleSlot (p : StationPort) (slot : Nat) : StationPort :=
  match p.verdicts[slot]? with
  | some v =>
    if v.state = .taken ∧ v.allComplete = true then
      { p with verdicts := p.verdicts.set slot { v with state := .ready }, readySlots := p.readySlots ++ [slot] }
    else p
  | none => p

/-- Changes one verdict entry of a slot; the slot becomes ready at the change that completes its last entry. -/
def State.setEntry (s : State) (slot position : Nat) (f : VerdictEntry → VerdictEntry) : State :=
  match s.station.verdicts[slot]? with
  | some v =>
    { s with station :=
      { s.station with
        verdicts := s.station.verdicts.set slot { v with entries := v.entries.modify position f } }.settleSlot slot }
  | none => s

/-- An entry filled at once: complete, charge 0 and cap room 65535 (R105). -/
def filledEntry (kind : VerdictKind) (flags : VerdictFlags) : VerdictEntry := ⟨true, some kind, flags, 0, 65535⟩

/-- An entry whose kind and flags are set and which waits for a write-back (R101, R103, R104). -/
def waitingEntry (kind : VerdictKind) (flags : VerdictFlags) : VerdictEntry := ⟨false, some kind, flags, 0, 65535⟩

/-- The verdict entry of the record in work becomes `e`; an ASSIST EXIT has none (R108). -/
def State.setVerdict (s : State) (h : Handling) (e : VerdictEntry) : State :=
  match h.origin with
  | .tap slot position _ => s.setEntry slot position fun _ => e
  | .assist _ => s

/-- A reserved reply entry is filled and becomes ready (R166). -/
def State.fillReply (s : State) (entry : Nat) (status : Status) (data : List Octet) : State :=
  { s with office :=
    { s.office with
      replies := s.office.replies.modify entry fun r => { r with state := .ready, status := status, data := data }
      readyReplies := s.office.readyReplies ++ [entry] } }

/-! ### Queues and the pause toward the far end (R160 to R162) -/

/-- A pause condition at an arrival that brings its queue to `n` frames. -/
def conditionRises (rise n : Nat) (c : Bool) : Bool := if n = rise then true else c

/-- A pause condition at a removal that brings its queue to `n` frames. -/
def conditionFalls (fall n : Nat) (c : Bool) : Bool := if n = fall then false else c

/-- The pause the Station Port signals toward the stations (R161). -/
def StationPort.pauseOut (p : StationPort) : Bool := p.intakeCondition || p.forwardCondition

/-- The pause the Office Port signals toward the office (R161). -/
def OfficePort.pauseOut (p : OfficePort) : Bool := p.intakeCondition || p.forwardCondition

/-- A frame is discarded and counted (R158 to R160, R162). -/
def State.discard (s : State) : State := s.count Counters.addDiscarded

/-- A tap frame joins the station intake queue, or is discarded where the queue is full (R160, R161). -/
def State.joinStationIntake (s : State) (f : Frame) : State :=
  if s.station.intake.length < Config.stationIntakePlaces then
    { s with station :=
      { s.station with
        intake := s.station.intake ++ [f]
        intakeCondition := conditionRises 28 (s.station.intake.length + 1) s.station.intakeCondition } }
  else s.discard

/-- A request frame joins the office intake queue, or is discarded where the queue is full (R160, R161). -/
def State.joinOfficeIntake (s : State) (f : Frame) : State :=
  if s.office.intake.length < Config.officeIntakePlaces then
    { s with office :=
      { s.office with
        intake := s.office.intake ++ [f]
        intakeCondition := conditionRises 14 (s.office.intake.length + 1) s.office.intakeCondition } }
  else s.discard

/-- A frame joins the pass-through-up queue, or is discarded where the queue is full (R161, R162). -/
def State.joinPassUp (s : State) (f : Frame) : State :=
  if s.office.passUp.length < Config.passPlaces then
    { s with
      office := { s.office with passUp := s.office.passUp ++ [f] }
      station :=
        { s.station with
          forwardCondition := conditionRises 12 (s.office.passUp.length + 1) s.station.forwardCondition } }
  else s.discard

/-- A frame joins the pass-through-down queue, or is discarded where the queue is full (R161, R162). -/
def State.joinPassDown (s : State) (f : Frame) : State :=
  if s.station.passDown.length < Config.passPlaces then
    { s with
      station := { s.station with passDown := s.station.passDown ++ [f] }
      office :=
        { s.office with
          forwardCondition := conditionRises 12 (s.station.passDown.length + 1) s.office.forwardCondition } }
  else s.discard

/-- The oldest frame leaves the station intake queue (R84, R161). -/
def StationPort.dropIntake (p : StationPort) : StationPort :=
  { p with
    intake := p.intake.tail
    intakeCondition := conditionFalls 20 (p.intake.length - 1) p.intakeCondition }

/-- The oldest frame leaves the office intake queue (R170, R161). -/
def OfficePort.dropIntake (p : OfficePort) : OfficePort :=
  { p with
    intake := p.intake.tail
    intakeCondition := conditionFalls 10 (p.intake.length - 1) p.intakeCondition }

/-! ### Readiness, the time trigger and activation (R82, R132, R149) -/

/-- A SCHEDULED bank whose activation time is not above `now` becomes CHECKING (R149). -/
def Bank.testSchedule (b : Bank) (now : LineTime) : Bank :=
  match b.activation with
  | some t =>
    if b.state = .scheduled ∧ t.toNat ≤ now.toNat then { b with state := .checking, derivedDone := 0 } else b
  | none => b

/-- The test of the activation schedule: no check begins while the clock is UNSET or a start pass runs (R149). -/
def State.testSchedule (s : State) (now : LineTime) : State :=
  if s.clock.set ∧ s.sweeper.state ≠ .startPass then
    { s with store :=
      { s.store with bankA := s.store.bankA.testSchedule now, bankB := s.store.bankB.testSchedule now } }
  else s

/-- A WAITING Matcher becomes READY where the clock is SET and a bank is ACTIVE (R82). -/
def State.wakeMatcher (s : State) : State :=
  if s.matcher.readiness = .waiting ∧ s.clock.set ∧ s.activeBank.isSome then
    { s with matcher := { s.matcher with readiness := .ready } }
  else s

/-- The time trigger, with the line seconds it carries (R132). -/
def State.timeTrigger (s : State) (now : LineTime) : State := (s.testSchedule now).wakeMatcher

/-- The second boundary (R128, R129, R130): line seconds step and saturate, the phase restarts and the length of the
new second is loaded from the trim. A clock that is SET hands the trigger. -/
def State.secondBoundary (s : State) : State :=
  let now := if s.clock.lineSeconds = 4294967295 then 4294967295 else s.clock.lineSeconds + 1
  let s := { s with clock :=
    { s.clock with lineSeconds := now, phase := 0, length := (10000000 - s.clock.trim).toNat } }
  if s.clock.set then s.timeTrigger now else s

/-- The millisecond tick (R131): the Sweeper counts it in PAUSE and disregards it otherwise (R115). The count stays
at the configured pause, where the pause has run out. -/
def State.millisecondTick (s : State) : State :=
  let s := { s with clock := { s.clock with msDivider := 0 } }
  if s.sweeper.state = .pause ∧ s.sweeper.ticks < s.sweeper.pause.toNat then
    { s with sweeper := { s.sweeper with ticks := s.sweeper.ticks + 1 } }
  else s

/-- One period of the 10 MHz line timing input (R128, R131). -/
def State.referencePeriod (s : State) : State :=
  let s :=
    if s.clock.phase + 1 < s.clock.length then { s with clock := { s.clock with phase := s.clock.phase + 1 } }
    else s.secondBoundary
  if s.clock.msDivider + 1 < 10000 then { s with clock := { s.clock with msDivider := s.clock.msDivider + 1 } }
  else s.millisecondTick

/-! ### The end of a start pass (R122, R154) -/

/-- A RETIRING bank whose count is 0 becomes STAGING (R154). -/
def Bank.settle (b : Bank) : Bank := if b.state = .retiring ∧ b.refs = 0 then { b with state := .staging } else b

/-- The end of either start pass: the Sweeper is IDLE with its defaults, the banks are settled, a SCHEDULED bank is
tested for a check, and the Matcher leaves STARTING (R82, R110, R122, R154). -/
def State.endStartPass (s : State) : State :=
  let s := { s with
    sweeper := { state := .idle }
    store := { s.store with bankA := s.store.bankA.settle, bankB := s.store.bankB.settle } }
  let s := s.returnSweeperSlot
  let s := s.testSchedule s.clock.lineSeconds
  { s with matcher :=
    { s.matcher with readiness := if s.clock.set ∧ s.activeBank.isSome then .ready else .waiting } }

/-! ### What has come about in time: clears and checks in flight (R140, R144) -/

/-- Clears the words at offsets `lo` to `hi - 1`. -/
def clearRange (m : WordMem) (lo hi : Nat) : WordMem := m.filter fun e => !(lo ≤ e.1 && e.1 < hi)

/-- The clear in flight has reached some further units, a free value, and not yet its highest (R140). -/
def State.advanceClear (s : State) : State :=
  match s.store.clear with
  | some c =>
    let n := max c.reached (Config.clearProgress s.freeCount % 256)
    let base := 1024 * c.segment
    let s := s.setBank c.bank { s.bank c.bank with words := clearRange (s.words c.bank) base (base + 4 * n) }
    { s with
      store := { s.store with clear := some { c with reached := n } }
      freeCount := s.freeCount + 1 }
  | none => s

/-- The unit is clear: each of its four words holds the cleared word (R137). -/
def unitClear (m : WordMem) (offset : Nat) : Bool :=
  (List.range 4).all fun i => wordAt m (offset + i) == Config.clearedWord

/-- A unit left with the words of a mask cleared and the others not. Where no word of it would be left uncleared, it
stands as before (R141). -/
def clearPart (m : WordMem) (offset : Nat) (mask : BitVec 4) : WordMem :=
  let cleared := m.filter fun e => !(offset ≤ e.1 && e.1 < offset + 4 && mask.getLsbD (e.1 - offset))
  if unitClear cleared offset then m else cleared

/-- A clear in flight ends without completion at a reset (R141): the units it had reached are clear, and the unit it was
clearing stands as before or with some of its words cleared and others not. -/
def State.breakClear (s : State) : State :=
  let s := s.advanceClear
  match s.store.clear with
  | some c =>
    let words := clearPart (s.words c.bank) (1024 * c.segment + 4 * c.reached) (Config.clearPartial s.freeCount)
    let s := s.setBank c.bank { s.bank c.bank with words := words }
    { s with store := { s.store with clear := none }, freeCount := s.freeCount + 1 }
  | none => s

/-- A check in flight that steps 1 to 10 do not fail has written some further words of the derived column, a free
value, and not yet the last of the 64: with that one the check passes (R18, R144, R150). -/
def State.advanceCheck (s : State) (b : BankId) : State :=
  let k := s.bank b
  if k.state = .checking ∧ checkFailure k.words = none then
    let n := max k.derivedDone (Config.checkProgress s.freeCount % 64)
    { s.setBank b { k with words := writeDerived k.words k.derivedDone n, derivedDone := n } with
      freeCount := s.freeCount + 1 }
  else s

/-! ### The two resets (R39, R73, R80, R81, R109, R126, R136, R141, R155, R156, R167, R178, R181, R184) -/

/-- A bank at either reset: its count is 0, and a check in flight is undone to SCHEDULED with its activation time. -/
def Bank.reset (b : Bank) : Bank :=
  { b with refs := 0, derivedDone := 0, state := if b.state = .checking then .scheduled else b.state }

/-- The contents of the banks at either reset: a clear and a check in flight stop where they are. -/
def State.stopStore (s : State) : State := ((s.breakClear).advanceCheck .A).advanceCheck .B

/-- The volatile state of the blocks at either reset. The pause from a far end is not engine state (R167). -/
def State.resetBlocks (s : State) (kind : PassKind) (discarded : Nat) : State :=
  { s with
    store := { s.store with bankA := s.store.bankA.reset, bankB := s.store.bankB.reset }
    holds := { sweeper := .held 0 {} }
    matcher := {}
    slots := {}
    fau := { serial := s.fau.serial }
    sweeper := { passKind := kind }
    station := { farEndPause := s.station.farEndPause }
    office := { farEndPause := s.office.farEndPause }
    responder := { discardedSettlements := discarded } }

/-- A restart: the settlements the queue holds are counted as discarded (R167), the Token Table, the clock, the banks'
contents and states and the load pointer are kept, and the restart start pass begins at bucket 0. -/
def State.restart (s : State) : State := s.stopStore.resetBlocks .restart s.office.settlements.length

/-- The trim the descriptor gives at power-up (R130). -/
def trimOf (descriptor : BitVec 16) : Int :=
  if -1000 ≤ descriptor.toInt ∧ descriptor.toInt ≤ 1000 then descriptor.toInt else 0

/-- The bucket count the straps select (R65). -/
def dramBuckets : DramStrap → Nat
  | .buckets4096 => 4096
  | .buckets8192 => 8192
  | .buckets16384 => 16384
  | .namesNone => 4096

/-- The node number the straps give (R159). -/
def nodeOf (strap : Octet) : Octet := if strap = 0 ∨ strap = 255 then 1 else strap

/-- A bank at power-up: RETIRING becomes STAGING (R155). -/
def Bank.powerUp (b : Bank) : Bank := if b.state = .retiring then { b with state := .staging } else b

/-- A power-up: the banks and the two descriptors are kept, the straps are read, and the power-up start pass begins at
bucket 0 over external DRAM whose contents carry no meaning (R80). -/
def State.powerUp (s : State) (dram : DramStrap) (node : Octet) : State :=
  let s := s.stopStore.resetBlocks .powerUp 0
  let trim := trimOf s.clock.trimDescriptor
  { s with
    clock := { trimDescriptor := s.clock.trimDescriptor, trim := trim, length := (10000000 - trim).toNat }
    store :=
      { s.store with
        bankA := s.store.bankA.powerUp, bankB := s.store.bankB.powerUp, pointerBank := .A, pointerOffset := 0 }
    table := []
    dramWritten := 0
    bucketCount := dramBuckets dram
    node := nodeOf node
    fau := {} }

end Sys2Proof.Machine
end

