-- ==== Sys2Proof/Machine/ClockEvents.lean ====
section
/-!
DEFINITION. The events of the Line Clock (spec/07_line_clock.md): SECOND_BOUNDARY and MILLISECOND_TICK.
-/

namespace Sys2Proof.Machine

open Sys2Proof

/-- SECOND_BOUNDARY (R128, R129, R132). -/
def execSecondBoundary (s : State) : Result := .next s.secondBoundary

/-- MILLISECOND_TICK (R131, R115). -/
def execMillisecondTick (s : State) : Result := .next s.millisecondTick

end Sys2Proof.Machine
end

