-- ==== Sys2Proof/Machine/FareEvents.lean ====
section
/-!
DEFINITION. The events of the Fare Arithmetic Unit: taking a job, the end of stages 1 to 4, the end of
WAIT_SETTLEMENT, and the write-back (spec/02_fare_arithmetic.md, spec/03_charging_and_apportionment.md).
-/

namespace Sys2Proof.Machine

open Sys2Proof

/-- The FAU enters a state. -/
def State.setFau (s : State) (f : FauState) : State := { s with fau := { s.fau with state := f } }

/-! ### JOB_TAKEN_INTO_WORK (R19, R21, R22) -/

/-- The accumulator as stage 3 leaves it: A2; a CANCELLED job passes through no stage (R33, R37). -/
def accumulatorOf (m : WordMem) (job : Job) : BitVec 40 :=
  match job.journey with
  | .cancelled _ _ => 0
  | j => BitVec.ofNat 40 (scaledCharge m j job.cls)

/-- The intermediate as stage 3 leaves it: the class product and its half (R33, R37). -/
def intermediateOf (m : WordMem) (job : Job) : BitVec 56 :=
  match job.journey with
  | .cancelled _ _ => 0
  | j => BitVec.ofNat 56 (classProduct m j job.cls)

/-- The FAU enters COMPUTING, where alone the accumulator and the intermediate hold contents (R38): the model shows
them as stage 3 leaves them (DESIGN CHOICE, log 19). -/
def Fau.beginComputing (f : Fau) (m : WordMem) (job : Job) : Fau :=
  { f with state := .computing job, accumulator := accumulatorOf m job, intermediate := intermediateOf m job }

/-- JOB_TAKEN_INTO_WORK: the IDLE FAU takes the job submitted earliest and frees its slot, which the arbiter may
grant (R21, R22). -/
def execJobTakenIntoWork (s : State) : Result :=
  match s.fau.state, s.fau.jobs with
  | .idle, job :: rest =>
    .next { s with fau := { s.fau with jobs := rest }.beginComputing (s.words job.bank) job }.arbitrate
  | _, _ => .next s

/-! ### COMPUTATION_COMPLETE (R19, R28 to R38) -/

/-- The job with the flag stage 1 adds (R30). -/
def Job.withStageOne (job : Job) (m : WordMem) : Job :=
  { job with flags := { job.flags with
    overrideUsed := job.flags.overrideUsed || (stageOne m job.journey).overrideUsed } }

/-- The FAU leaves COMPUTING with the job's results; the accumulator and the intermediate hold nothing from here on
(R38). -/
def Fau.endComputing (f : Fau) (job : Job) (r : FareResult) : Fau :=
  { f with state := .waitSettlement job r, accumulator := 0, intermediate := 0 }

/-- COMPUTATION_COMPLETE (R19, R38). -/
def execComputationComplete (s : State) : Result :=
  match s.fau.state with
  | .computing job =>
    let m := s.words job.bank
    .next { s with fau := s.fau.endComputing (job.withStageOne m) (computeFare m job.journey job.cls) }
  | _ => .next s

/-! ### The write-back -/

/-- The settlement of a job under the operator channel mask its write-back read (R50, R51, R57, Table 3-3). -/
def State.settlementOf (s : State) (job : Job) (r : FareResult) (c : Charge) (channels : BitVec 4) : Settlement :=
  ⟨s.fau.serial, job.journey, job.flags, job.token, job.cls, r.version, r.distance, r.fare, c.amount,
    BitVec.ofNat 16 c.spentAfter, apportion (s.words job.bank) channels job.journey r c.amount⟩

/-- The settlement is appended with the serial's present value, the serial wraps, and the settlement is counted
(R50, R51). -/
def State.appendSettlement (s : State) (x : Settlement) : State :=
  { s with
    office := { s.office with settlements := s.office.settlements ++ [x] }
    fau := { s.fau with serial := s.fau.serial + 1 } }.count Counters.addSettlement

/-- The waiting verdict entry or reply entry of the job is filled (R53, R54). -/
def State.answerJob (s : State) (job : Job) (x : Settlement) (c : Charge) : State :=
  match job.ref with
  | .none => s
  | .verdict slot position =>
    s.setEntry slot position fun e => { e with complete := true, charge := c.amount, capRoom := BitVec.ofNat 16 c.roomAfter }
  | .reply entry =>
    s.fillReply entry .done
      (octetsOf32 x.serial ++ natToOctets 2 x.fare ++ intToOctets 4 x.amount ++ natToOctets 2 c.roomAfter)

/-- The settlement and the answer of a write-back. -/
def State.report (s : State) (job : Job) (r : FareResult) (c : Charge) (channels : BitVec 4) : State :=
  let x := s.settlementOf job r c channels
  (s.appendSettlement x).answerJob job x c

/-- The job with the flag of an untracked charge (R44). -/
def Job.untracked (job : Job) : Job := { job with flags := { job.flags with capUntracked := true } }

/-- The write-back of an untracked job: the whole fare is charged and no record changes (R44). -/
def State.writeBackUntracked (s : State) (job : Job) (r : FareResult) (channels : BitVec 4) : State :=
  s.report job.untracked r (chargeUntracked r.fare) channels

/-- The lazy daily reset (R41). -/
def TokenRecord.lazyReset (r : TokenRecord) (day : BitVec 16) : TokenRecord :=
  if r.spendDay = day then r else { r with spendDay := day, spentToday := 0, journeysToday := 0 }

/-- Stage 5 of a tracked job against its record after the lazy reset (R42, R43). -/
def chargeJob (m : WordMem) (job : Job) (fare : Nat) (old : TokenRecord) : Charge :=
  let k := dailyCap m job.cls
  match job.journey with
  | .correction _ _ paid =>
    chargeCorrection k fare paid.toNat old.spentToday.toNat old.journeysToday.toNat
  | _ => chargeTracked k fare old.spentToday.toNat old.journeysToday.toNat

/-- The spend of stage 5 in the record, and its closing part removed (R45). -/
def TokenRecord.charged (old : TokenRecord) (c : Charge) : TokenRecord :=
  { old with
    spentToday := BitVec.ofNat 16 c.spentAfter
    journeysToday := BitVec.ofNat 8 c.journeys
    closing := none }

/-- The recent-expiry part an EXPIRED write-back makes (R47). -/
def recentPartOf (job : Job) (entry : Leg) (now : LineTime) (c : Charge) : RecentPart :=
  ⟨entry, job.cls, job.bank, now, BitVec.ofNat 16 c.charge⟩

/-- The record's parts and the bank's reference after the write-back at line time `now` (R45 to R47, Table 3-2). -/
def State.settleParts (s : State) (b w : Nat) (job : Job) (old : TokenRecord) (c : Charge) (now : LineTime) : State :=
  match job.journey with
  | .expired entry =>
    if 0 < correctionWindow (s.words job.bank) then
      (s.putWay b w (some { old with recent := some (recentPartOf job entry now c) })).releaseRecent
        old.recent
    else (s.putWay b w (some old)).releaseRef job.bank
  | _ => (s.putWay b w (some old)).releaseRef job.bank

/-- The write-back of a tracked job with the service day, the line time and the channel mask read at the grant (R41 to
R54, R57; that the expiry time is of that reading is DEDUCED, log 32). -/
def State.writeBackTracked (s : State) (b w : Nat) (job : Job) (r : FareResult) (old : TokenRecord) (read : Reading) :
    State :=
  let old := old.lazyReset (dayOf read.now)
  let c := chargeJob (s.words job.bank) job r.fare old
  (s.settleParts b w job (old.charged c) c read.now).report job r c read.channels

/-- The release of the FAU's hold: a Matcher that waits for a closing part just removed has its notice first (R76). -/
def State.releaseFau (s : State) (b : Nat) (job : Job) (removed : Bool) : State :=
  let s := if removed then s.notice b job.token else s
  (s.setFau .idle).releaseHold .fau b

/-- WRITE_BACK with the bucket held (R41 to R54). A job whose record is not found is untracked (R44; DEDUCED, log
21). -/
def State.writeBack (s : State) (b : Nat) (job : Job) (r : FareResult) (read : Reading) : State :=
  match s.lookupClosing b job.token job.tag with
  | some (w, old, _) => (s.writeBackTracked b w job r old read).releaseFau b job true
  | none => (s.writeBackUntracked job r read.channels).releaseFau b job false

/-- WRITE_BACK (R45). -/
def execWriteBack (s : State) : Result :=
  match s.fau.state, s.holds.fau with
  | .waitHold job r, .held b read => .next (s.writeBack b job r read)
  | _, _ => .next s

/-! ### WAIT_SETTLEMENT_END (R19, R20, R48) -/

/-- The job's kind is DISPLACED. -/
def Job.isDisplaced (job : Job) : Bool :=
  match job.journey with
  | .displaced _ => true
  | _ => false

/-- WAIT_SETTLEMENT_END: with a free settlement entry the FAU requests the record's bucket; a DISPLACED job is written
back at once without a hold, with the mask as it stands then, and its bank reference is released (R48, R57). -/
def execWaitSettlementEnd (s : State) : Result :=
  match s.fau.state with
  | .waitSettlement job r =>
    if s.office.settlements.length < Config.settlementPlaces then
      if job.isDisplaced then .next (((s.writeBackUntracked job r s.fau.channels).releaseRef job.bank).setFau .idle)
      else .next ((s.setFau (.waitHold job r)).requestHold .fau (s.bucketOf job.token))
    else .next s
  | _ => .next s

end Sys2Proof.Machine
end

