-- ==== Sys2Proof/Machine/MatcherEvents.lean ====
section
/-!
DEFINITION. The events of the Tap Matcher (spec/05_tap_matching.md). A record passes through three kinds of step: its
tests before the bucket (TAP_RECORD), the grants of its reservations, and one hold of its token's bucket
(TAP_HOLD_GRANTED), which may end in a wait and be taken again.
-/

namespace Sys2Proof.Machine

open Sys2Proof

/-! ### Shared by the Matcher's steps -/

/-- The Matcher's work becomes `w`. -/
def State.setWork (s : State) (w : MatcherWork) : State := { s with matcher := { s.matcher with work := w } }

/-- The Matcher requests the bucket of its token and waits in WAIT_HOLD (R91). -/
def State.seekHold (s : State) (h : Handling) : State :=
  (s.setWork (.waitHold h)).requestHold .matcher (s.bucketOf h.tap.token)

/-- The Matcher asks for a reservation (R23, R91). -/
def State.seekSlot (s : State) (w : MatcherWork) : State := (s.setWork w).requestMatcherSlot

/-- The frame in work after one of its records has ended: none where that was its last (R84). -/
def FrameInWork.afterRecord (f : FrameInWork) : Option FrameInWork :=
  match f.remaining with
  | [] => none
  | _ :: _ => some f

/-- The end of the record or request in work: it returns every reservation it has not filled (R106, R108), and its
frame or its request leaves work with it. -/
def State.endWork (s : State) (h : Handling) : State :=
  let s := s.setWork .none
  let s :=
    match h.origin with
    | .tap _ _ _ => { s with matcher := { s.matcher with frame := s.matcher.frame.bind FrameInWork.afterRecord } }
    | .assist _ => { s with responder := { s.responder with inWork := none } }
  s.returnMatcherSlots

/-- A tap record handled increases taps taken (R106); an ASSIST EXIT changes no such counter (R108). -/
def State.countTaken (s : State) (h : Handling) : State :=
  match h.origin with
  | .tap _ _ _ => s.count Counters.addTaken
  | .assist _ => s

/-- A record refused before any hold: its verdict is filled at once, it is counted as taken and refused, and it ends
(R83, R87 to R89). -/
def State.refuseRecord (s : State) (h : Handling) (kind : VerdictKind) : State :=
  (((s.setVerdict h (filledEntry kind {})).count Counters.addTaken).count Counters.addRefused).endWork h

/-- The source node that a capture for the record names (R179). -/
def Handling.source (h : Handling) : Octet :=
  match h.origin with
  | .tap _ _ source => source
  | .assist _ => 0

/-! ### TAP_FRAME_TAKEN (R84, R85) -/

/-- The frame's slot, source, sequence and one waiting entry per record, or no entry and ready at once where the frame
is malformed as a whole. -/
def State.claimSlot (s : State) (f : Frame) (slot : Nat) : State :=
  let payload := framePayload f
  let entries := if tapFrameMalformed payload then [] else (tapRecords payload).map fun _ => VerdictEntry.fresh
  { s with station :=
    { s.station.dropIntake with
      verdicts := s.station.verdicts.set slot ⟨.taken, frameSource f, frameSequence f, entries⟩ }.settleSlot slot }

/-- The frame is in work, or, malformed as a whole, is counted as refused. -/
def State.startFrame (s : State) (f : Frame) (slot : Nat) : State :=
  let payload := framePayload f
  if tapFrameMalformed payload then s.count Counters.addRefused
  else { s with matcher := { s.matcher with frame := some ⟨slot, frameSource f, tapRecords payload, 0⟩ } }

/-- TAP_FRAME_TAKEN (R84, R85). -/
def execTapFrameTaken (s : State) : Result :=
  match s.matcher.work, s.matcher.frame, s.station.intake, freePlace VerdictSlot.state s.station.verdicts with
  | .none, none, f :: _, some slot => .next ((s.claimSlot f slot).startFrame f slot)
  | _, _, _, _ => .next s

/-! ### TAP_RECORD (R83, R87 to R91) -/

/-- The time test of R90 against the line clock and the late limit of the judging bank. -/
def timeTest (m : WordMem) (now : LineTime) (h : Handling) : Handling :=
  if now.toNat < h.tap.time.toNat then { h with time := now, clamped := true, late := false }
  else { h with
    time := h.tap.time, clamped := false, late := decide (lateLimit m < now.toNat - h.tap.time.toNat) }

/-- A record that has passed its tests asks for a reservation, or, begun again after a failed bank claim, keeps the one
it holds and requests the bucket (R91, R93). -/
def State.admitRecord (s : State) (h : Handling) : State :=
  if s.slots.matcherReserved = 0 then s.seekSlot (.waitReservation h) else s.seekHold h

/-- The tests from the station test on, with the ACTIVE bank as judging bank (R88 to R91). -/
def State.judgeRecord (s : State) (h : Handling) (bank : BankId) : State :=
  let h := { h with judging := bank, lapsed := false }
  let m := s.words bank
  if stationCount m ≤ h.tap.station.toNat then
    (s.capture .unknownStation h.source 0 h.tap.station.toNat).refuseRecord h .unknownStation
  else if denied m h.tap.token then s.refuseRecord h .denied
  else s.admitRecord (timeTest m s.clock.lineSeconds h)

/-- The bank the Matcher judges by: the ACTIVE one, where its readiness is READY. A Matcher without an ACTIVE bank is
not READY (R82). -/
def State.judgingBank (s : State) : Option BankId := if s.matcher.readiness = .ready then s.activeBank else none

/-- The tests of a record just begun, in order (R83, R87, R88). -/
def State.testRecord (s : State) (h : Handling) : State :=
  match s.judgingBank with
  | none => s.refuseRecord h .notReady
  | some bank => if tapMalformed h.tap then s.refuseRecord h .malformed else s.judgeRecord h bank

/-- An ASSIST EXIT has been handed to the Matcher and not yet taken (R107). -/
def State.assistWaits (s : State) : Bool :=
  match s.responder.inWork with
  | some (.assistHanded _ _ _ _) => true
  | _ => false

/-- The next record of the frame is begun: it leaves the records not begun. -/
def State.beginRecord (s : State) (f : FrameInWork) (rest : List TapRecord) : State :=
  { s with matcher :=
    { s.matcher with frame := some { f with remaining := rest, position := f.position + 1 } } }

/-- A record as it comes, before its tests. -/
def FrameInWork.handling (f : FrameInWork) (t : TapRecord) : Handling :=
  ⟨.tap f.slot f.position f.source, t, .A, t.time, false, false, false⟩

/-- TAP_RECORD (R83, R87 to R91). An ASSIST EXIT that has been handed over goes first (R107). A record whose bank
claim failed is begun again at the station test (R93). -/
def execTapRecord (s : State) : Result :=
  match s.matcher.work, s.matcher.frame with
  | .rejudge h, _ =>
    match s.activeBank with
    | some bank => .next (s.judgeRecord h bank)
    | none => .next s
  | .none, some f =>
    match f.remaining with
    | t :: rest => if s.assistWaits then .next s else .next ((s.beginRecord f rest).testRecord (f.handling t))
    | [] => .next s
  | _, _ => .next s

/-! ### The grants of reservations (R24, R91) -/

/-- A granted slot is taken up and the bucket is requested. -/
def State.takeSlot (s : State) (h : Handling) : State :=
  { s with slots := { s.slots with matcherRequest := .none } }.seekHold h

/-- RESERVATION_GRANTED (R91). -/
def execReservationGranted (s : State) : Result :=
  match s.matcher.work, s.slots.matcherRequest with
  | .waitReservation h, .granted => .next (s.takeSlot h)
  | _, _ => .next s

/-- SECOND_RESERVATION_GRANTED (R24). -/
def execSecondReservationGranted (s : State) : Result :=
  match s.matcher.work, s.slots.matcherRequest with
  | .waitSecond h, .granted => .next (s.takeSlot h)
  | _, _ => .next s

/-! ### ASSIST_EXIT_TAKEN (R107) -/

/-- The Matcher's early answer to an ASSIST EXIT: the reply is filled and the request leaves work (R107, R176). -/
def State.answerAssist (s : State) (entry : Nat) (status : Status) : State :=
  { s.fillReply entry status [] with responder := { s.responder with inWork := none } }

/-- The exit an ASSIST EXIT makes: its time is tap now, so it is neither clamped nor late (R107). -/
def assistHandling (token : Token) (station gate : Octet) (entry : Nat) (bank : BankId) (now : LineTime) : Handling :=
  ⟨.assist entry, ⟨token, station, gate, directionExit, 0, now⟩, bank, now, false, false, false⟩

/-- The tests of an ASSIST EXIT that the Matcher takes (R107). -/
def State.takeAssist (s : State) (token : Token) (station gate : Octet) (entry : Nat) : State :=
  match s.judgingBank with
  | none => s.answerAssist entry .notReady
  | some bank =>
    if token = 0 ∨ stationCount (s.words bank) ≤ station.toNat then s.answerAssist entry .badArgument
    else
      { s with responder := { s.responder with inWork := some (.assistTaken entry) } }.seekSlot
        (.waitReservation (assistHandling token station gate entry bank s.clock.lineSeconds))

/-- ASSIST_EXIT_TAKEN (R107): with no record or request in work, so in IDLE, in WAIT_VERDICT_SLOT or between two
records of a frame. -/
def execAssistExitTaken (s : State) : Result :=
  match s.matcher.work, s.responder.inWork with
  | .none, some (.assistHanded token station gate entry) => .next (s.takeAssist token station gate entry)
  | _, _ => .next s

/-! ### TAP_HOLD_GRANTED: what the record and its parts become -/

/-- The tap's station, gate and handled time. -/
def Handling.leg (h : Handling) : Leg := ⟨h.tap.station, h.tap.gate, h.time⟩

/-- The token record's last tap and last activity at the end of a record (R106). -/
def TokenRecord.touch (r : TokenRecord) (h : Handling) (now : LineTime) : TokenRecord :=
  { r with lastTap := some h.leg, lastActivity := now }

/-- The tap is at the station and gate of the record's last tap, so that the debounce window decides (R94). -/
def Handling.atLastTap (h : Handling) (r : TokenRecord) : Bool :=
  match r.lastTap with
  | some l => l.station == h.tap.station && l.gate == h.tap.gate
  | none => false

/-- The record is a duplicate (R94). -/
def isDuplicate (m : WordMem) (h : Handling) (r : TokenRecord) : Bool :=
  match r.lastTap with
  | some l => h.atLastTap r && absDiff h.time.toNat l.time.toNat < debounceWindow m
  | none => false

/-- The direction is taken as an entry (Table 5-3). -/
def takenAsEntry (direction : Octet) (hasOpen : Bool) : Bool :=
  direction == directionEntry || (direction == directionEither && !hasOpen)

/-- The open part an accepted entry makes (R98). -/
def Handling.newOpen (h : Handling) : OpenPart := ⟨h.leg, h.tap.cls, h.judging, h.clamped, h.late⟩

/-- The exit is before the entry and is raised to it (R99). -/
def Handling.raised (h : Handling) (entry : Leg) : Bool := h.time.toNat < entry.time.toNat

/-- The exit leg with its time raised to the entry time where it is below it (R99). -/
def Handling.exitLeg (h : Handling) (entry : Leg) : Leg :=
  if h.raised entry then ⟨h.tap.station, h.tap.gate, entry.time⟩ else h.leg

/-- The exit is a cancellation (R99). -/
def isCancellation (m : WordMem) (h : Handling) (o : OpenPart) : Bool :=
  h.tap.station == o.entry.station && (h.exitLeg o.entry).time.toNat - o.entry.time.toNat ≤ cancelWindow m

/-- The difference of a time from an earlier one, 0 where the earlier one lies ahead (R102, R117, R118). -/
def ageOf (now since : LineTime) : Nat := now.toNat - since.toNat

/-- The Matcher would match the recent-expiry part at hold now (R102). -/
def recentUsable (m : WordMem) (now : LineTime) (p : RecentPart) : Bool :=
  serviceDay p.expiryTime == serviceDay now && ageOf now p.expiryTime ≤ correctionWindow m

/-- The reference a job made for the record carries: its verdict entry, or the reply entry of an ASSIST EXIT. -/
def Handling.ref (h : Handling) : Reference :=
  match h.origin with
  | .tap slot position _ => .verdict slot position
  | .assist entry => .reply entry

/-- The closing part of an INCOMPLETE journey (R97). -/
def closeIncomplete (o : OpenPart) : ClosingPart :=
  ⟨.incomplete o.entry, 0, o.bank, o.cls, .none, entryFlags o⟩

/-- The closing part of a cancelled journey (R100). -/
def closeCancelled (h : Handling) (o : OpenPart) : ClosingPart :=
  ⟨.cancelled o.entry (h.exitLeg o.entry), 0, o.bank, o.cls, .none,
    (entryFlags o).union (exitFlags h (h.raised o.entry))⟩

/-- The closing part of a completed journey (R101). -/
def closeComplete (h : Handling) (o : OpenPart) : ClosingPart :=
  ⟨.complete o.entry (h.exitLeg o.entry), 0, o.bank, o.cls, h.ref,
    (entryFlags o).union (exitFlags h (h.raised o.entry))⟩

/-- The closing part of an assisted exit (R108). -/
def closeAssisted (h : Handling) (o : OpenPart) : ClosingPart :=
  { closeComplete h o with flags := { (closeComplete h o).flags with assisted := true } }

/-- The closing part of a correction (R103). -/
def closeCorrection (h : Handling) (p : RecentPart) : ClosingPart :=
  ⟨.correction p.entry (h.exitLeg p.entry) p.charged, 0, p.bank, p.cls, h.ref, exitFlags h (h.raised p.entry)⟩

/-- The closing part of an unmatched exit (R104). -/
def closeUnmatched (h : Handling) : ClosingPart :=
  ⟨.unmatched h.leg, 0, h.judging, h.tap.cls, h.ref, exitFlags h false⟩

/-- The DISPLACED job of a displaced open part (R69). -/
def displacedJob (t : Token) (o : OpenPart) : Job :=
  ⟨.displaced o.entry, 0, t, o.bank, o.cls, .none, { entryFlags o with provisional := true }⟩

/-- The closing part with the tag its job is given (R27). -/
def State.tagged (s : State) (c : ClosingPart) : ClosingPart := { c with tag := s.fau.tag }

/-! ### TAP_HOLD_GRANTED: ends and waits -/

/-- The hold's release at a wait, with the work state the Matcher waits in. -/
def State.waitAfterHold (s : State) (b : Nat) (w : MatcherWork) : State := (s.setWork w).releaseHold .matcher b

/-- The release of the hold and the end of the record (R106). -/
def State.finish (s : State) (b : Nat) (h : Handling) : State :=
  ((s.releaseHold .matcher b).countTaken h).endWork h

/-- A duplicate: last activity alone is set, and the counter duplicates increases (R94). -/
def State.endDuplicate (s : State) (b w : Nat) (h : Handling) (r : TokenRecord) (now : LineTime) : State :=
  let s := s.putWay b w (some { r with lastActivity := now })
  let s := s.setVerdict h (filledEntry .duplicate (markFlags h))
  (s.count Counters.addDuplicate).finish b h

/-- An entry at a closed station: last tap and last activity are set where the token has a record, and no part is made
or removed (R96). -/
def State.endClosed (s : State) (b : Nat) (h : Handling) (found : Option (Nat × TokenRecord)) (now : LineTime) : State :=
  let s :=
    match found with
    | some (w, r) => s.putWay b w (some (r.touch h now))
    | none => s
  let s := s.setVerdict h (filledEntry .stationClosed (markFlags h))
  (s.count Counters.addRefused).finish b h

/-- The hold is released unchanged and the record is begun again, under the bank that is ACTIVE then (R93). -/
def State.claimFails (s : State) (b : Nat) (h : Handling) : State := s.waitAfterHold b (.rejudge h)

/-- A bank claim on the judging bank succeeds: it is still ACTIVE (R93). A bank that was replaced while the record
waited and is ACTIVE again is not, since the record's station was not tested against what it holds now (DEDUCED, log
31). -/
def State.claimHolds (s : State) (h : Handling) : Bool := (s.bank h.judging).state == .active && !h.lapsed

/-- A bank that lookups may read: ACTIVE or RETIRING. No table of a bank in another state is looked up (R1). -/
def Bank.readable (b : Bank) : Bool := b.state == .active || b.state == .retiring

/-- A lookup in the judging bank is allowed. Where the bank was replaced at count 0 while the record waited, it is not,
whatever the bank has become since, and the record is begun again as after a failed claim (R1, R93; DEDUCED, logs 29 and
31). -/
def State.judgeable (s : State) (h : Handling) : Bool := (s.bank h.judging).readable && !h.lapsed

/-- The record leaves its way to make room: what an insertion does to what the way held (R68, R69). -/
def State.vacate (s : State) (b : Nat) (h : Handling) : Placement → State
  | .free _ => s
  | .evict _ r => (s.releaseRecent r.recent).count Counters.addEviction
  | .displace _ r o =>
    let s := (s.releaseRecent r.recent).count Counters.addDisplacement
    (s.capture .recordDisplaced h.source 0 b).submitMatcher (displacedJob r.token o)
  | .full => s

/-- The way a placement takes. -/
def Placement.way : Placement → Nat
  | .free w => w
  | .evict w _ => w
  | .displace w _ _ => w
  | .full => 0

/-! ### TAP_HOLD_GRANTED: entry (R96 to R98) -/

/-- An entry by a token whose record holds an open part: that journey closes as INCOMPLETE (R97). -/
def State.enterAgain (s : State) (b w : Nat) (h : Handling) (r : TokenRecord) (o : OpenPart) (now : LineTime) : State :=
  let s := s.makeRef h.judging
  let c := s.tagged (closeIncomplete o)
  let s := s.putWay b w (some { r.touch h now with closing := some c, openPart := some h.newOpen })
  let s := s.submitMatcher (c.job r.token)
  (s.setVerdict h (filledEntry .entered { markFlags h with previousClosed := true })).finish b h

/-- An entry by a token whose record holds no open part (R98). -/
def State.enterRecord (s : State) (b w : Nat) (h : Handling) (r : TokenRecord) (now : LineTime) : State :=
  let s := s.makeRef h.judging
  let s := s.putWay b w (some { r.touch h now with openPart := some h.newOpen })
  (s.setVerdict h (filledEntry .entered (markFlags h))).finish b h

/-- An entry by a token with no record, in the way chosen (R98, R68, R69). The new record's spend day and last activity
are of hold now, the one reading of the hold, also where R60 reads the clock at the insertion (DESIGN CHOICE, log
34). -/
def State.enterNew (s : State) (b : Nat) (h : Handling) (p : Placement) (now : LineTime) (day : BitVec 16) : State :=
  let s := (s.makeRef h.judging).vacate b h p
  let r := (TokenRecord.fresh h.tap.token day now).touch h now
  let s := s.putWay b p.way (some { r with openPart := some h.newOpen })
  (s.setVerdict h (filledEntry .entered (markFlags h))).finish b h

/-- An entry (R96 to R98), after its tests and its bank claim (R93). The closed test reads the judging bank (R1). -/
def State.handleEntry (s : State) (b : Nat) (h : Handling) (found : Option (Nat × TokenRecord)) (now : LineTime)
    (day : BitVec 16) : State :=
  if s.judgeable h = false then s.claimFails b h
  else if openForEntry (s.words h.judging) h.tap.station.toNat = false then s.endClosed b h found now
  else
    match found with
    | some (w, r) =>
      if s.claimHolds h then
        match r.openPart with
        | some o => s.enterAgain b w h r o now
        | none => s.enterRecord b w h r now
      else s.claimFails b h
    | none =>
      if s.placement b day = .full then s.waitAfterHold b (.waitBucket h)
      else if s.claimHolds h then s.enterNew b h (s.placement b day) now day
      else s.claimFails b h

/-! ### TAP_HOLD_GRANTED: exit (R99 to R104) -/

/-- A closing part takes the place of the open part, its job is submitted, and the record's verdict is `e`. -/
def State.closeOpen (s : State) (b w : Nat) (h : Handling) (r : TokenRecord) (c : ClosingPart) (e : VerdictEntry) :
    State :=
  let c := s.tagged c
  let s := s.putWay b w (some { r with closing := some c, openPart := none })
  ((s.submitMatcher (c.job r.token)).setVerdict h e).finish b h

/-- The verdict flags of an exit (R100, R101, R103). -/
def Handling.exitVerdict (h : Handling) (entry : Leg) : VerdictFlags :=
  { markFlags h with exitBeforeEntry := h.raised entry }

/-- An exit with an open part: a cancellation or a completion (R99 to R101). -/
def State.exitOpen (s : State) (b w : Nat) (h : Handling) (r : TokenRecord) (o : OpenPart) (now : LineTime) : State :=
  let flags := h.exitVerdict o.entry
  if isCancellation (s.words o.bank) h o then
    s.closeOpen b w h (r.touch h now) (closeCancelled h o) (filledEntry .cancelled flags)
  else s.closeOpen b w h (r.touch h now) (closeComplete h o) (waitingEntry .exited flags)

/-- A correction (R103). -/
def State.exitCorrection (s : State) (b w : Nat) (h : Handling) (r : TokenRecord) (p : RecentPart) (now : LineTime) :
    State :=
  let c := s.tagged (closeCorrection h p)
  let s := s.putWay b w (some { r.touch h now with closing := some c, recent := none })
  let s := s.submitMatcher (c.job r.token)
  (s.setVerdict h (waitingEntry .corrected (h.exitVerdict p.entry))).finish b h

/-- An unmatched exit whose closing part joins the record `r` in way `w` (R104). -/
def State.exitUnmatched (s : State) (b w : Nat) (h : Handling) (r : TokenRecord) (now : LineTime) : State :=
  let c := s.tagged (closeUnmatched h)
  let s := s.putWay b w (some { r.touch h now with closing := some c })
  let s := s.submitMatcher (c.job r.token)
  (s.setVerdict h (waitingEntry .unmatched (markFlags h))).finish b h

/-- An insertion displaces a journey. -/
def Placement.displaces : Placement → Bool
  | .displace _ _ _ => true
  | _ => false

/-- An unmatched exit by a token with no record: a second reservation, a bucket wait, or an insertion (R24, R104). The
insertion takes the reading of the hold, also where R60 reads the clock (DESIGN CHOICE, log 34). -/
def State.exitNew (s : State) (b : Nat) (h : Handling) (now : LineTime) (day : BitVec 16) : State :=
  let p := s.placement b day
  if p = .full then s.waitAfterHold b (.waitBucket h)
  else if p.displaces ∧ s.slots.matcherReserved < 2 then
    (s.waitAfterHold b (.waitSecond h)).requestMatcherSlot
  else if s.claimHolds h then
    ((s.makeRef h.judging).vacate b h p).exitUnmatched b p.way h (TokenRecord.fresh h.tap.token day now) now
  else s.claimFails b h

/-- An exit with no open part (R102 to R104). -/
def State.exitNoOpen (s : State) (b : Nat) (h : Handling) (found : Option (Nat × TokenRecord)) (now : LineTime)
    (day : BitVec 16) : State :=
  match found with
  | none => s.exitNew b h now day
  | some (w, r) =>
    match r.recent with
    | some p =>
      if recentUsable (s.words p.bank) now p then s.exitCorrection b w h r p now
      else if s.claimHolds h then (s.makeRef h.judging).exitUnmatched b w h r now
      else s.claimFails b h
    | none => if s.claimHolds h then (s.makeRef h.judging).exitUnmatched b w h r now else s.claimFails b h

/-! ### TAP_HOLD_GRANTED (R92) -/

/-- A tap in the hold: the duplicate test (R94), which reads the judging bank (R1), then the direction (R95). -/
def State.handleTap (s : State) (b : Nat) (h : Handling) (found : Option (Nat × TokenRecord)) (now : LineTime)
    (day : BitVec 16) : State :=
  match found with
  | none =>
    if takenAsEntry h.tap.direction false then s.handleEntry b h found now day else s.exitNoOpen b h found now day
  | some (w, r) =>
    if h.atLastTap r ∧ s.judgeable h = false then s.claimFails b h
    else if isDuplicate (s.words h.judging) h r then s.endDuplicate b w h r now
    else if takenAsEntry h.tap.direction r.openPart.isSome then s.handleEntry b h found now day
    else
      match r.openPart with
      | some o => s.exitOpen b w h r o now
      | none => s.exitNoOpen b h found now day

/-- An ASSIST EXIT in the hold: a COMPLETE job where the token's record holds an open part, else NOT_FOUND with no
change (R108). The last tap is not changed. -/
def State.handleAssist (s : State) (b : Nat) (h : Handling) (entry : Nat) (found : Option (Nat × TokenRecord))
    (now : LineTime) : State :=
  match found with
  | none => (s.fillReply entry .notFound []).finish b h
  | some (w, r) =>
    match r.openPart with
    | some o =>
      s.closeOpen b w h { r with lastActivity := now } (closeAssisted h o) (waitingEntry .exited {})
    | none => (s.fillReply entry .notFound []).finish b h

/-- The record holds a closing part. -/
def closingFound : Option (Nat × TokenRecord) → Bool
  | some (_, r) => r.closing.isSome
  | none => false

/-- The hold of bucket `b` with hold now `now`, as the clock read at the grant: the record is looked up, a closing part
makes the Matcher wait for its removal, and the tap or request is handled (R92). -/
def State.handleHold (s : State) (b : Nat) (h : Handling) (now : LineTime) : State :=
  let found := s.lookup b h.tap.token
  if closingFound found then s.waitAfterHold b (.waitToken h)
  else
    match h.origin with
    | .tap _ _ _ => s.handleTap b h found now (dayOf now)
    | .assist entry => s.handleAssist b h entry found now

/-- TAP_HOLD_GRANTED (R92 to R106, R108). -/
def execTapHoldGranted (s : State) : Result :=
  match s.matcher.work, s.holds.matcher with
  | .waitHold h, .held b read => .next (s.handleHold b h read.now)
  | _, _ => .next s

end Sys2Proof.Machine
end

