-- ==== Sys2Proof/Machine/PortEvents.lean ====
section
/-!
DEFINITION. The events of the two ports (spec/09_line_ports_and_formats.md): receiving and routing a frame, the far
end's pause, and the beginning and end of a transmission.
-/

namespace Sys2Proof.Machine

open Sys2Proof

/-! ### Receiving (R157 to R160) -/

def Port.code : Port → Nat
  | .station => 0
  | .office => 1

/-- A frame that is not well formed: discarded and counted, with a FRAME_CHECK capture (R158). -/
def State.failCheck (s : State) (port : Port) (kind source : Octet) : State :=
  s.discard.capture .frameCheck source (Port.code port) kind.toNat

/-- The routing of a well-formed frame by its destination node, kind and port (R159). -/
def State.routeFrame (s : State) (port : Port) (f : Frame) : State :=
  match port with
  | .station =>
    if frameDest f ≠ s.node then s.joinPassUp f
    else if frameKind f = kindTap then s.joinStationIntake f
    else s.discard
  | .office =>
    if frameDest f ≠ s.node then s.joinPassDown f
    else if frameKind f = kindRequest then s.joinOfficeIntake f
    else s.discard

/-- The port waits for the next frame boundary, or does not (R157). -/
def State.setAwait (s : State) (port : Port) (v : Bool) : State :=
  match port with
  | .station => { s with station := { s.station with awaitsBoundary := v } }
  | .office => { s with office := { s.office with awaitsBoundary := v } }

/-- FRAME_RECEIVED (R157, R158, R159). -/
def execFrameReceived (port : Port) (octets : Frame) (s : State) : Result :=
  let s := s.setAwait port false
  if frameWellFormed octets then .next (s.routeFrame port octets)
  else .next (s.failCheck port (octetAt octets 0) (octetAt octets 2))

/-- FRAME_OVERLENGTH_DISCARD: a frame of more than 1033 octets is not well formed, and is discarded at its 1034th
octet (R157, R158; DEDUCED, log 8). -/
def execFrameOverlengthDiscard (port : Port) (kind source : Octet) (s : State) : Result :=
  .next ((s.setAwait port true).failCheck port kind source)

/-! ### Choosing and beginning a frame (R163 to R166, R168) -/

/-- The verdict frame of a slot (R164). -/
def verdictFrame (node : Octet) (v : VerdictSlot) : Frame :=
  buildFrame kindVerdict v.source node v.sequence (verdictPayload v)

/-- The settlement frame, addressed to the fare office with the serial mod 65536 as its sequence (R166). -/
def settlementFrame (node : Octet) (x : Settlement) : Frame :=
  buildFrame kindSettlement 0 node (x.serial.setWidth 16) (settlementPayload x)

/-- The reply frame of an entry (R166, R173). -/
def replyFrame (node : Octet) (r : ReplyEntry) : Frame :=
  buildFrame kindReply r.dest node r.sequence (replyPayload r)

/-- The oldest ready verdict slot begins; the turn passes to pass-through (R164, R165). -/
def StationPort.beginVerdict (p : StationPort) (node : Octet) (slot : Nat) : StationPort :=
  let v := p.verdicts.getD slot {}
  { p with
    verdicts := p.verdicts.set slot { v with state := .sending }
    readySlots := p.readySlots.tail
    turnVerdicts := false
    sending := some (.verdict slot (verdictFrame node v)) }

/-- The oldest pass-through-down frame begins; the turn passes to verdicts (R162, R165). -/
def StationPort.beginPass (p : StationPort) (f : Frame) : StationPort :=
  { p with turnVerdicts := true, sending := some (.passThrough f) }

/-- The Station Port's choice (R165) where it may begin a frame (R163). -/
def StationPort.begin (p : StationPort) (node : Octet) : StationPort :=
  if p.farEndPause ∨ p.sending ≠ none then p
  else
    match p.readySlots, p.passDown with
    | [], [] => p
    | slot :: _, [] => p.beginVerdict node slot
    | [], f :: _ => p.beginPass f
    | slot :: _, f :: _ => if p.turnVerdicts then p.beginVerdict node slot else p.beginPass f

/-- The reply that became ready earliest begins; the turn is not touched (R166). -/
def OfficePort.beginReply (p : OfficePort) (node : Octet) (entry : Nat) : OfficePort :=
  let r := p.replies.getD entry {}
  { p with
    replies := p.replies.set entry { r with state := .sending }
    readyReplies := p.readyReplies.tail
    sending := some (.reply entry (replyFrame node r)) }

/-- The oldest settlement begins; the turn passes to pass-through (R166). -/
def OfficePort.beginSettlement (p : OfficePort) (node : Octet) (x : Settlement) : OfficePort :=
  { p with turnSettlements := false, sending := some (.settlement (settlementFrame node x)) }

/-- The oldest pass-through-up frame begins; the turn passes to settlements (R162, R166). -/
def OfficePort.beginPass (p : OfficePort) (f : Frame) : OfficePort :=
  { p with turnSettlements := true, sending := some (.passThrough f) }

/-- The Office Port's choice (R166) where it may begin a frame (R163). -/
def OfficePort.begin (p : OfficePort) (node : Octet) : OfficePort :=
  if p.farEndPause ∨ p.sending ≠ none then p
  else
    match p.readyReplies, p.settlements, p.passUp with
    | entry :: _, _, _ => p.beginReply node entry
    | [], [], [] => p
    | [], x :: _, [] => p.beginSettlement node x
    | [], [], f :: _ => p.beginPass f
    | [], x :: _, f :: _ => if p.turnSettlements then p.beginSettlement node x else p.beginPass f

/-- The port chooses and begins a frame, if it may and one is ready (R163). -/
def State.beginFrame (s : State) (port : Port) : State :=
  match port with
  | .station => { s with station := s.station.begin s.node }
  | .office => { s with office := s.office.begin s.node }

/-- FRAME_BEGIN (R163). -/
def execFrameBegin (port : Port) (s : State) : Result := .next (s.beginFrame port)

/-- The pause that the port's far end signals. -/
def State.setFarEndPause (s : State) (port : Port) (v : Bool) : State :=
  match port with
  | .station => { s with station := { s.station with farEndPause := v } }
  | .office => { s with office := { s.office with farEndPause := v } }

/-- FAR_END_PAUSE_ASSERTED: no frame begins from now on; a frame being sent is sent to its end (R163). -/
def execFarEndPauseAsserted (port : Port) (s : State) : Result := .next (s.setFarEndPause port true)

/-- FAR_END_PAUSE_RELEASED: the port chooses and begins a frame if one is ready (R163). -/
def execFarEndPauseReleased (port : Port) (s : State) : Result :=
  .next ((s.setFarEndPause port false).beginFrame port)

/-! ### The end of a transmission (R162 to R166, R182) -/

/-- The verdict slot sent becomes free (R164); what it records then is the model's choice (log 35). -/
def State.endVerdict (s : State) (slot : Nat) : State :=
  { s with station := { s.station with sending := none, verdicts := s.station.verdicts.set slot {} } }

/-- The pass-through-down frame sent leaves its queue (R162, R161). -/
def State.endPassDown (s : State) : State :=
  { s with
    station := { s.station with sending := none, passDown := s.station.passDown.tail }
    office :=
      { s.office with
        forwardCondition := conditionFalls 8 (s.station.passDown.length - 1) s.office.forwardCondition } }

/-- The settlement sent leaves its queue (R166). -/
def State.endSettlement (s : State) : State :=
  { s with office := { s.office with sending := none, settlements := s.office.settlements.tail } }

/-- The pass-through-up frame sent leaves its queue (R162, R161). -/
def State.endPassUp (s : State) : State :=
  { s with
    office := { s.office with sending := none, passUp := s.office.passUp.tail }
    station :=
      { s.station with
        forwardCondition := conditionFalls 8 (s.office.passUp.length - 1) s.station.forwardCondition } }

/-- The reply entry sent becomes free (R166); what it holds then is the model's choice (log 35). -/
def State.endReply (s : State) (entry : Nat) : State :=
  { s with office := { s.office with sending := none, replies := s.office.replies.set entry {} } }

/-- The end of the Station Port's transmission; the port chooses again (R163). -/
def State.endStationFrame (s : State) : State :=
  match s.station.sending with
  | some (.verdict slot _) => (s.endVerdict slot).beginFrame .station
  | some (.passThrough _) => s.endPassDown.beginFrame .station
  | none => s

/-- The end of the Office Port's transmission; the port chooses again (R163). At the end of the RESTART reply the
restart is taken (R182). -/
def State.endOfficeFrame (s : State) : State :=
  match s.office.sending with
  | some (.reply entry _) =>
    if s.responder.restartPending = some entry then (s.endReply entry).restart
    else (s.endReply entry).beginFrame .office
  | some (.settlement _) => s.endSettlement.beginFrame .office
  | some (.passThrough _) => s.endPassUp.beginFrame .office
  | none => s

/-- FRAME_TRANSMISSION_END (R163). -/
def execFrameTransmissionEnd (port : Port) (s : State) : Result :=
  match port with
  | .station => .next s.endStationFrame
  | .office => .next s.endOfficeFrame

end Sys2Proof.Machine
end

