-- ==== Sys2Proof/Machine/SweeperEvents.lean ====
section
/-!
DEFINITION. The events of the Expiry Sweeper (spec/06_expiry_sweeper.md): the end of a pause, the examination of a
bucket, the grant of a slot, and the buckets of the two start passes.
-/

namespace Sys2Proof.Machine

open Sys2Proof

/-! ### Bursts (R112, R114, R115) -/

/-- A burst begins at the pointer: its first bucket is requested (R114). -/
def State.beginBurst (s : State) : State :=
  { s with sweeper := { s.sweeper with state := .burst, burstDone := 0 } }.requestHold .sweeper s.sweeper.pointer

/-- PAUSE_RUNS_OUT (R115). -/
def execPauseRunsOut (s : State) : Result :=
  if s.sweeper.state = .pause ∧ s.sweeper.pause.toNat ≤ s.sweeper.ticks then .next s.beginBurst else .next s

/-! ### Examining a bucket (R116 to R120) -/

/-- The recent-expiry part is overdue at sweep now: the Matcher would no longer match it (R118, R102). -/
def recentOverdue (m : WordMem) (now : LineTime) (p : RecentPart) : Bool := !recentUsable m now p

/-- The open part is due at sweep now (R117). -/
def openDue (m : WordMem) (now : LineTime) (o : OpenPart) : Bool := maxJourneyDuration m ≤ ageOf now o.entry.time

/-- The closing part of an expired journey (R117). -/
def closeExpired (o : OpenPart) : ClosingPart := ⟨.expired o.entry, 0, o.bank, o.cls, .none, entryFlags o⟩

/-- The recent-expiry test: an overdue part is dropped and its reference released (R118). -/
def State.dropOverdue (s : State) (b w : Nat) (r : TokenRecord) (now : LineTime) : State × TokenRecord :=
  match r.recent with
  | some p =>
    if recentOverdue (s.words p.bank) now p then
      let r := { r with recent := none }
      ((s.putWay b w (some r)).releaseRef p.bank, r)
    else (s, r)
  | none => (s, r)

/-- The open part is turned into a closing part of kind EXPIRED and its job is submitted (R117). -/
def State.expire (s : State) (b w : Nat) (r : TokenRecord) (o : OpenPart) : State :=
  let c := s.tagged (closeExpired o)
  (s.putWay b w (some { r with openPart := none, closing := some c })).submitSweeper (c.job r.token)

/-- The tests of one record with no closing part: the recent-expiry test, the expiry test, the stale test. The second
component says that a due open part found no slot (R116 to R120). -/
def State.examineRecord (s : State) (b w : Nat) (r : TokenRecord) (now : LineTime) : State × Bool :=
  match s.dropOverdue b w r now with
  | (s, r) =>
    match r.openPart with
    | some o =>
      if openDue (s.words o.bank) now o then
        if s.sweeperSlotAtHand then (s.expire b w r o, false) else (s, true)
      else (s, false)
    | none =>
      if r.stale (dayOf now) then (s.putWay b w none, false) else (s, false)

/-- One way (Table 6-3). -/
def State.examineWay (s : State) (b w : Nat) (now : LineTime) : State × Bool :=
  match s.way b w with
  | some r => if r.closing.isSome then (s, false) else s.examineRecord b w r now
  | none => (s, false)

/-- Some ways in order, up to the first whose due open part finds no slot (R116). -/
def State.examineWays (s : State) (b : Nat) (now : LineTime) : List Nat → State × Bool
  | [] => (s, false)
  | w :: ws =>
    match s.examineWay b w now with
    | (s, true) => (s, true)
    | (s, false) => s.examineWays b now ws

/-! ### After an examination (R114, R119, R121) -/

/-- The Sweeper after a full examination: pointer, round count, round test and the burst's count (R114, R121). The
flag says that this completes a round. -/
def Sweeper.examined (w : Sweeper) (bucketCount : Nat) : Sweeper :=
  let complete := w.round + 1 == bucketCount
  { w with
    pointer := (w.pointer + 1) % bucketCount
    round := if complete then 0 else w.round + 1
    passCounter := if complete then w.passCounter + 1 else w.passCounter
    passComplete := w.passComplete || (complete && w.mode == .single)
    burstDone := w.burstDone + 1 }

/-- The end of a burst: PAUSE, or IDLE in STOPPING or after a SINGLE pass (R114, R121). -/
def Sweeper.endBurst (w : Sweeper) : Sweeper :=
  if w.state = .stopping ∨ (w.mode = .single ∧ w.passComplete = true) then { w with state := .idle }
  else { w with state := .pause, ticks := 0 }

/-- The burst goes on to its next bucket, or ends after its fourth (R114). -/
def State.continueBurst (s : State) : State :=
  if s.sweeper.burstDone < Config.burstBuckets then s.requestHold .sweeper s.sweeper.pointer
  else { s with sweeper := s.sweeper.endBurst }

/-- The bucket is fully examined: the hold is released, an unused reserved slot is returned, and the burst goes on. -/
def State.fullyExamined (s : State) (b : Nat) : State :=
  let s := { s with sweeper := s.sweeper.examined s.bucketCount }
  ((s.releaseHold .sweeper b).returnSweeperSlot).continueBurst

/-- No slot for a due part: the hold is released with the part unchanged. In STOPPING the Sweeper is IDLE at once,
else it waits for a slot (R119). -/
def State.blocked (s : State) (b : Nat) : State :=
  let s := s.releaseHold .sweeper b
  if s.sweeper.state = .stopping then { s with sweeper := { s.sweeper with state := .idle } }
  else { s with sweeper := { s.sweeper with state := .waitSlot } }.requestSweeperSlot

/-- One examination of the held bucket with sweep now `now`, as the clock read at the grant (R116). -/
def State.examineBucket (s : State) (b : Nat) (now : LineTime) : State :=
  match s.examineWays b now (List.range Config.ways) with
  | (s, true) => s.blocked b
  | (s, false) => s.fullyExamined b

/-- The Sweeper is working the buckets of a burst. -/
def Sweeper.inBurst (w : Sweeper) : Bool := w.state == .burst || w.state == .stopping

/-- SWEEP_HOLD_GRANTED (R116 to R121). -/
def execSweepHoldGranted (s : State) : Result :=
  match s.holds.sweeper with
  | .held b read => if s.sweeper.inBurst then .next (s.examineBucket b read.now) else .next s
  | _ => .next s

/-- SWEEPER_SLOT_GRANTED: the slot is held reserved and the same bucket is requested again (R119). -/
def execSweeperSlotGranted (s : State) : Result :=
  if s.sweeper.state = .waitSlot ∧ s.slots.sweeperRequest = .granted then
    .next ({ s with
      sweeper := { s.sweeper with state := .burst }
      slots := { s.slots with sweeperRequest := .none } }.requestHold .sweeper s.sweeper.pointer)
  else .next s

/-! ### The start passes (R122 to R125) -/

/-- The pass goes on to the next bucket, or ends with the last (R122). -/
def State.nextPassBucket (s : State) (b : Nat) : State :=
  let s := s.releaseHold .sweeper b
  if b + 1 < s.bucketCount then
    { s with sweeper := { s.sweeper with passBucket := b + 1, passWay := 0 } }.requestHold .sweeper (b + 1)
  else s.endStartPass

/-- POWER_UP_START_PASS_BUCKET: every way of the bucket is written empty (R123). -/
def execPowerUpStartPassBucket (s : State) : Result :=
  match s.holds.sweeper with
  | .held b _ =>
    if s.sweeper.state = .startPass ∧ s.sweeper.passKind = .powerUp then
      .next ({ s.emptyBucket b with dramWritten := b + 1 }.nextPassBucket b)
    else .next s
  | _ => .next s

/-- The parts a power-up left in a bucket that no pass has written: free values (R80; log 12). -/
def State.fillUndefined (s : State) (b : Nat) : State :=
  if b < s.dramWritten then s
  else
    { (List.range Config.ways).foldl
        (fun s w => s.putWay b w (Config.undefinedWay s.freeCount (wayKey b w))) s with
      dramWritten := b + 1
      freeCount := s.freeCount + 1 }

/-- The references of a record's open and recent-expiry parts are counted to their banks (R125). -/
def State.countParts (s : State) (r : TokenRecord) : State :=
  let s :=
    match r.openPart with
    | some o => s.makeRef o.bank
    | none => s
  match r.recent with
  | some p => s.makeRef p.bank
  | none => s

/-- The closing part as the start pass leaves it: RESUBMITTED, and without its reference (R124). -/
def ClosingPart.resubmitted (c : ClosingPart) : ClosingPart :=
  { c with ref := .none, flags := { c.flags with resubmitted := true } }

/-- The closing part is resubmitted as a job and counted to its bank (R124, R125). -/
def State.resubmit (s : State) (b w : Nat) (r : TokenRecord) (c : ClosingPart) : State :=
  let c := s.tagged c.resubmitted
  ((s.putWay b w (some { r with closing := some c })).submitSweeper (c.job r.token)).makeRef c.bank

/-- The pass passes one way; the second component says that its closing part found no slot (R124, R125). -/
def State.passWay (s : State) (b w : Nat) : State × Bool :=
  match s.way b w with
  | some r =>
    match r.closing with
    | some c => if s.sweeperSlotAtHand then ((s.resubmit b w r c).countParts r, false) else (s, true)
    | none => (s.countParts r, false)
  | none => (s, false)

/-- Some ways in order, up to the first whose closing part finds no slot, which is the noted way (R124). -/
def State.passWays (s : State) (b : Nat) : List Nat → State × Option Nat
  | [] => (s, none)
  | w :: ws =>
    match s.passWay b w with
    | (s, true) => (s, some w)
    | (s, false) => s.passWays b ws

/-- The ways of a bucket from a noted way on. -/
def waysFrom (w : Nat) : List Nat := (List.range Config.ways).filter fun v => w ≤ v

/-- One hold of the restart start pass: the bucket is passed from the noted way on; where a closing part finds no slot
the hold is released and the pass waits for one (R124). -/
def State.restartPassBucket (s : State) (b : Nat) : State :=
  let s := s.fillUndefined b
  match s.passWays b (waysFrom s.sweeper.passWay) with
  | (s, some w) =>
    let s := s.releaseHold .sweeper b
    { s with sweeper := { s.sweeper with passWay := w } }.requestSweeperSlot
  | (s, none) => s.nextPassBucket b

/-- RESTART_START_PASS_BUCKET (R124, R125). -/
def execRestartStartPassBucket (s : State) : Result :=
  match s.holds.sweeper with
  | .held b _ => if s.inRestartPass then .next (s.restartPassBucket b) else .next s
  | _ => .next s

/-- START_PASS_SLOT_GRANTED: the slot is held reserved and the bucket is requested again, to resume at the noted way
(R124). -/
def execStartPassSlotGranted (s : State) : Result :=
  if s.sweeper.state = .startPass ∧ s.slots.sweeperRequest = .granted then
    .next ({ s with slots := { s.slots with sweeperRequest := .none } }.requestHold .sweeper s.sweeper.passBucket)
  else .next s

end Sys2Proof.Machine
end

