-- ==== Sys2Proof/Machine/RequestEvents.lean ====
section
/-!
DEFINITION. The requests of the fare office (spec/10_management_requests.md): the taking of a request from the office
intake queue (R170, R171) and, one definition for each request, what the block that answers it does.
-/

namespace Sys2Proof.Machine

open Sys2Proof

/-! ### Taking a request (R170, R171) -/

/-- A request as a block is handed it: its reserved reply entry, its frame's source node and its arguments. -/
structure Request where
  entry : Nat
  source : Octet
  args : List Octet
  deriving DecidableEq, Repr

/-- The frame the Responder may take now, with the reply entry it reserves: no request is in work, no restart is
pending, the office intake queue holds a frame and a reply entry is free (R170, R182). -/
def State.nextRequest (s : State) : Option (Nat × Frame) :=
  match s.responder.inWork, s.responder.restartPending, s.office.intake, freePlace ReplyEntry.state s.office.replies with
  | none, none, f :: _, some entry => some (entry, f)
  | _, _, _, _ => none

/-- The frame leaves the intake queue and the entry is reserved with its source node, sequence, code and tag. -/
def State.reserve (s : State) (entry : Nat) (f : Frame) : State :=
  { s with office :=
    { s.office.dropIntake with
      replies := s.office.replies.set entry
        { state := .taken, dest := frameSource f, sequence := frameSequence f
          code := requestCode (framePayload f), tag := requestTag (framePayload f) } } }

/-- The taking of the next request, where its payload passes the checks with request code `code` (R171): the block
that answers it is `handle`. Where it is not that request's turn the command changes nothing (log 1). -/
def State.onRequest (s : State) (code : Nat) (handle : State → Request → State) : Result :=
  match s.nextRequest with
  | some (entry, f) =>
    if requestKnown (framePayload f) ∧ (requestCode (framePayload f)).toNat = code then
      .next (handle (s.reserve entry f) ⟨entry, frameSource f, requestArguments (framePayload f)⟩)
    else .next s
  | none => .next s

/-- The block's reply: the reserved entry is filled and becomes ready, and the request ends (R172). -/
def State.answer (s : State) (q : Request) (status : Status) (data : List Octet) : State :=
  s.fillReply q.entry status data

/-- A refusal carries no data (R173). -/
def State.refuse (s : State) (q : Request) (status : Status) : State := s.answer q status []

/-! ### STATUS (R174) -/

/-- STATUS (R174). -/
def execStatus (s : State) : Result := s.onRequest 1 fun s q => s.answer q .done (statusData s)

/-! ### The Line Clock (R133, R134) -/

/-- The clock as a setting leaves it (R133). -/
def Clock.setTime (c : Clock) (t : LineTime) : Clock :=
  { c with set := true, lineSeconds := t, phase := 0, length := (10000000 - c.trim).toNat }

/-- The setting of the clock, and the time trigger it hands (R132, R133). -/
def State.setTime (s : State) (q : Request) : State :=
  let t : LineTime := BitVec.ofNat 32 (fieldAt q.args 0 4)
  let before := s.clock.lineSeconds
  ({ s with clock := s.clock.setTime t }.timeTrigger t).answer q .done (octetsOf32 before ++ octetsOf32 t)

/-- SET_TIME (R133). -/
def execSetTime (s : State) : Result := s.onRequest 2 State.setTime

/-- A trim clamped to -1000..+1000 (R134). -/
def clampTrim (t : Int) : Int := max (-1000) (min 1000 t)

/-- The trim and its descriptor are written (R134). -/
def State.setTrim (s : State) (q : Request) : State :=
  let t := clampTrim (signedField q.args 0)
  { s with clock := { s.clock with trim := t, trimDescriptor := BitVec.ofInt 16 t } }.answer q .done (intToOctets 2 t)

/-- SET_TRIM (R134). -/
def execSetTrim (s : State) : Result := s.onRequest 3 State.setTrim

/-! ### The Table Store: clearing, writing, reading (R139 to R145) -/

/-- The capture of a write refused (R139, R142, R143). -/
def State.captureWrite (s : State) (q : Request) (kind : FaultKind) (b : BankId) (offset : Nat) : State :=
  s.capture kind q.source b.code offset

/-- The tests of a CLEAR SEGMENT and its taking (R139). The reply entry of a clear that is taken stays reserved. -/
def State.clearSegmentRequest (s : State) (q : Request) : State :=
  let segment := (octetAt q.args 1).toNat
  match bankOf (octetAt q.args 0) with
  | none => s.refuse q .badArgument
  | some b =>
    if 15 < segment then s.refuse q .badArgument
    else if s.store.clear.isSome then s.refuse q .busy
    else if (s.bank b).state ≠ .staging then
      (s.captureWrite q .writeProtected b (1024 * segment)).refuse q .isProtected
    else { s with store := { s.store with clear := some ⟨b, segment, 0, q.entry⟩ } }

/-- CLEAR_SEGMENT (R139). -/
def execClearSegment (s : State) : Result := s.onRequest 4 State.clearSegmentRequest

/-- The unit lies in the segment that is being cleared (R140). -/
def TableStore.clearing (t : TableStore) (b : BankId) (offset : Nat) : Bool :=
  match t.clear with
  | some c => c.bank == b && c.segment == offset / 1024
  | none => false

/-- The offset of a unit within the derived area (Table 8-1). -/
def inDerivedArea (offset : Nat) : Bool := 1536 ≤ offset && offset ≤ 1596

/-- Tests 2 to 5 of a unit write, with the capture a refusal attempts (Table 8-1). -/
def State.writeRefusal (s : State) (b : BankId) (offset : Nat) : Option (Status × Option FaultKind) :=
  if (s.bank b).state ≠ .staging then some (.isProtected, some .writeProtected)
  else if inDerivedArea offset then some (.isProtected, some .writeProtected)
  else if s.store.clearing b offset then some (.busy, none)
  else if unitClear (s.words b) offset = false then some (.notCleared, some .writeNotCleared)
  else none

/-- The four words are written and the load pointer names the next unit (R142, R143). -/
def State.putUnit (s : State) (b : BankId) (offset : Nat) (words : List Word) : State :=
  let s := s.setBank b { s.bank b with words := writeWords (s.words b) offset words }
  { s with store := { s.store with pointerBank := b, pointerOffset := offset + 4 } }

/-- A unit write by tests 2 to 5 of Table 8-1 (R142, R143). -/
def State.writeUnitAt (s : State) (q : Request) (b : BankId) (offset : Nat) (words : List Word) : State :=
  match s.writeRefusal b offset with
  | some (status, some kind) => (s.captureWrite q kind b offset).refuse q status
  | some (status, none) => s.refuse q status
  | none =>
    let s := s.putUnit b offset words
    s.answer q .done (pointerOctets s.store)

/-- The offset names a unit (Table 8-1, order 1). -/
def unitOffset (offset : Nat) : Bool := offset % 4 == 0 && offset ≤ 16380

/-- WRITE UNIT (R142). -/
def State.writeUnitRequest (s : State) (q : Request) : State :=
  let offset := fieldAt q.args 1 2
  match bankOf (octetAt q.args 0) with
  | none => s.refuse q .badArgument
  | some b =>
    if unitOffset offset then s.writeUnitAt q b offset (fourWords q.args 3) else s.refuse q .badArgument

/-- WRITE_UNIT (R142). -/
def execWriteUnit (s : State) : Result := s.onRequest 5 State.writeUnitRequest

/-- WRITE NEXT (R143). -/
def State.writeNextRequest (s : State) (q : Request) : State :=
  if s.store.pointerOffset = 16384 then s.refuse q .badArgument
  else s.writeUnitAt q s.store.pointerBank s.store.pointerOffset (fourWords q.args 0)

/-- WRITE_NEXT (R143). -/
def execWriteNext (s : State) : Result := s.onRequest 6 State.writeNextRequest

/-- SET POINTER (R144). -/
def State.setPointerRequest (s : State) (q : Request) : State :=
  let offset := fieldAt q.args 1 2
  match bankOf (octetAt q.args 0) with
  | none => s.refuse q .badArgument
  | some b =>
    if offset % 4 = 0 ∧ offset ≤ 16384 then
      let s := { s with store := { s.store with pointerBank := b, pointerOffset := offset } }
      s.answer q .done (pointerOctets s.store)
    else s.refuse q .badArgument

/-- SET_POINTER (R144). -/
def execSetPointer (s : State) : Result := s.onRequest 7 State.setPointerRequest

/-- The four words of a unit as they stand. -/
def unitOctets (m : WordMem) (offset : Nat) : List Octet :=
  (List.range 4).flatMap fun i => octetsOf32 (wordAt m (offset + i))

/-- READ UNIT (R144). A read of the derived area of a CHECKING bank sees how far the check has written it. -/
def State.readUnitRequest (s : State) (q : Request) : State :=
  let offset := fieldAt q.args 1 2
  match bankOf (octetAt q.args 0) with
  | none => s.refuse q .badArgument
  | some b =>
    if unitOffset offset then
      if s.store.clearing b offset then s.refuse q .busy
      else
        let s := if inDerivedArea offset then s.advanceCheck b else s
        s.answer q .done (unitOctets (s.words b) offset)
    else s.refuse q .badArgument

/-- READ_UNIT (R144). -/
def execReadUnit (s : State) : Result := s.onRequest 8 State.readUnitRequest

/-! ### The Table Store: the schedule (R147, R148, R138) -/

/-- The bank is SCHEDULED or CHECKING. -/
def Bank.onSchedule (b : Bank) : Bool := b.state == .scheduled || b.state == .checking

/-- A clear is in flight in the bank. -/
def TableStore.clearingBank (t : TableStore) (b : BankId) : Bool :=
  match t.clear with
  | some c => c.bank == b
  | none => false

/-- Tests 2 to 6 of a SCHEDULE (R147). -/
def State.scheduleRefusal (s : State) (b : BankId) : Option Status :=
  if (s.bank b).state = .active then some .badState
  else if (s.bank b).state = .retiring then some .inUse
  else if (s.bank b).onSchedule then some .busy
  else if (s.bank b.other).onSchedule then some .busy
  else if s.store.clearingBank b then some .busy
  else none

/-- The bank becomes SCHEDULED, and its check begins at once where R149 says so (R147). -/
def State.schedule (s : State) (b : BankId) (t : LineTime) : State :=
  (s.setBank b { s.bank b with state := .scheduled, activation := some t, checkCode := 0 }).testSchedule
    s.clock.lineSeconds

/-- SCHEDULE (R147). -/
def State.scheduleRequest (s : State) (q : Request) : State :=
  let t : LineTime := BitVec.ofNat 32 (fieldAt q.args 1 4)
  match bankOf (octetAt q.args 0) with
  | none => s.refuse q .badArgument
  | some b =>
    match s.scheduleRefusal b with
    | some status => s.refuse q status
    | none =>
      let s := s.schedule b t
      s.answer q .done (bankOctets b ++ octetsOf32 t ++ natToOctets 1 (s.bank b).state.code)

/-- SCHEDULE (R147). -/
def execSchedule (s : State) : Result := s.onRequest 9 State.scheduleRequest

/-- The SCHEDULED bank; at most one is (R146). -/
def State.scheduledBank (s : State) : Option BankId :=
  if s.store.bankA.state = .scheduled then some .A
  else if s.store.bankB.state = .scheduled then some .B
  else none

/-- UNSCHEDULE (R148). -/
def State.unscheduleRequest (s : State) (q : Request) : State :=
  match s.scheduledBank with
  | some b => (s.setBank b { s.bank b with state := .staging, activation := none }).answer q .done (bankOctets b)
  | none =>
    if s.store.bankA.state = .checking ∨ s.store.bankB.state = .checking then s.refuse q .busy
    else s.refuse q .badState

/-- UNSCHEDULE (R148). -/
def execUnschedule (s : State) : Result := s.onRequest 10 State.unscheduleRequest

/-- A clear of segment 0 is in flight, so that a version word is being cleared. -/
def TableStore.clearingVersion (t : TableStore) : Bool :=
  match t.clear with
  | some c => c.segment == 0
  | none => false

/-- READ BANKS (R138). A version word in a segment that is being cleared is seen as the clear has left it so far. -/
def State.readBanksRequest (s : State) (q : Request) : State :=
  let s := if s.store.clearingVersion then s.advanceClear else s
  s.answer q .done (banksData s.store)

/-- READ_BANKS (R138). -/
def execReadBanks (s : State) : Result := s.onRequest 11 State.readBanksRequest

/-! ### The Expiry Sweeper (R111 to R113) -/

/-- The mode an octet names (Table 9-9). -/
def modeOf (o : Octet) : Option SweepMode := if o = 0 then some .single else if o = 1 then some .continuous else none

/-- A pause of 0 is taken as 1 (R111). -/
def clampPause (p : BitVec 16) : BitVec 16 := if p = 0 then 1 else p

/-- The data of a SWEEP CONFIG reply (Table 9-5). -/
def sweepConfigData (w : Sweeper) : List Octet :=
  natToOctets 1 w.mode.code ++ octetsOf16 w.pause ++ natToOctets 2 w.pointer

/-- SWEEP CONFIG (R111). -/
def State.sweepConfigRequest (s : State) (q : Request) : State :=
  let bucket := fieldAt q.args 3 2
  if s.sweeper.state ≠ .idle then s.refuse q .busy
  else
    match modeOf (octetAt q.args 0) with
    | none => s.refuse q .badArgument
    | some mode =>
      if s.bucketCount ≤ bucket then s.refuse q .badArgument
      else
        let s := { s with sweeper :=
          { s.sweeper with mode := mode, pause := clampPause (BitVec.ofNat 16 (fieldAt q.args 1 2)), pointer := bucket } }
        s.answer q .done (sweepConfigData s.sweeper)

/-- SWEEP_CONFIG (R111). -/
def execSweepConfig (s : State) : Result := s.onRequest 12 State.sweepConfigRequest

/-- SWEEP START (R112). -/
def State.sweepStartRequest (s : State) (q : Request) : State :=
  if s.sweeper.state ≠ .idle then s.refuse q .busy
  else
    ({ s with sweeper := { s.sweeper with round := 0, passComplete := false } }.beginBurst).answer q .done []

/-- SWEEP_START (R112). -/
def execSweepStart (s : State) : Result := s.onRequest 13 State.sweepStartRequest

/-- The Sweeper enters a state. -/
def State.setSweep (s : State) (w : SweepState) : State := { s with sweeper := { s.sweeper with state := w } }

/-- SWEEP STOP by the Sweeper's state (Table 6-2). -/
def State.sweepStopRequest (s : State) (q : Request) : State :=
  match s.sweeper.state with
  | .idle => s.answer q .done []
  | .burst => (s.setSweep .stopping).answer q .done []
  | .stopping => s.answer q .done []
  | .pause => (s.setSweep .idle).answer q .done []
  | .waitSlot => ((s.setSweep .idle).returnSweeperSlot).answer q .done []
  | .startPass => s.refuse q .busy

/-- SWEEP_STOP (R113). -/
def execSweepStop (s : State) : Result := s.onRequest 14 State.sweepStopRequest

/-! ### READ TOKEN (R79, R175) -/

/-- The read of the token's record, which changes nothing but the reply (R79, R175). -/
def State.readRecord (s : State) (token : Token) (entry : Nat) : State :=
  match s.lookup (s.bucketOf token) token with
  | some (_, r) => s.fillReply entry .done (tokenRecordData r)
  | none => s.fillReply entry .notFound []

/-- The token of a READ TOKEN or ASSIST EXIT. -/
def tokenArgument (args : List Octet) : Token := BitVec.ofNat 64 (fieldAt args 0 8)

/-- READ TOKEN (R175): read at once where the bucket is free, else the request waits in work (R79). -/
def State.readTokenRequest (s : State) (q : Request) : State :=
  let token := tokenArgument q.args
  if token = 0 then s.refuse q .badArgument
  else if s.matcher.readiness = .starting then s.refuse q .notReady
  else if s.holds.heldIn (s.bucketOf token) then
    { s with responder := { s.responder with inWork := some (.readToken token q.entry) } }
  else s.readRecord token q.entry

/-- READ_TOKEN (R175). -/
def execReadToken (s : State) : Result := s.onRequest 15 State.readTokenRequest

/-- TOKEN_RECORD_READ: the read that waited, at the release of its bucket; the grant of R74 follows it (R79). -/
def execTokenRecordRead (s : State) : Result :=
  match s.responder.inWork with
  | some (.readToken token entry) =>
    if s.holds.heldIn (s.bucketOf token) then .next s
    else
      let t := { s.readRecord token entry with responder := { s.responder with inWork := none } }
      .next (t.grantNext (s.bucketOf token))
  | _ => .next s

/-! ### ASSIST EXIT, SET CHANNELS (R176, R177) -/

/-- ASSIST EXIT is handed to the Matcher and stays in work until the Matcher ends it (R107, R172, R176). -/
def State.assistExitRequest (s : State) (q : Request) : State :=
  let work := .assistHanded (tokenArgument q.args) (octetAt q.args 8) (octetAt q.args 9) q.entry
  { s with responder := { s.responder with inWork := some work } }

/-- ASSIST_EXIT (R176). -/
def execAssistExit (s : State) : Result := s.onRequest 16 State.assistExitRequest

/-- The mask as set: channel 0 always, bits 4..7 disregarded (R177). -/
def channelMask (o : Octet) : BitVec 4 := o.setWidth 4 ||| 1

/-- SET CHANNELS (R177). -/
def State.setChannelsRequest (s : State) (q : Request) : State :=
  let mask := channelMask (octetAt q.args 0)
  { s with fau := { s.fau with channels := mask } }.answer q .done (natToOctets 1 mask.toNat)

/-- SET_CHANNELS (R177). -/
def execSetChannels (s : State) : Result := s.onRequest 17 State.setChannelsRequest

/-! ### The fault capture record, RESTART (R180, R182) -/

/-- READ_FAULT (R180). -/
def execReadFault (s : State) : Result := s.onRequest 18 fun s q => s.answer q .done (faultData s.responder.fault)

/-- CLEAR FAULT (R180). -/
def State.clearFaultRequest (s : State) (q : Request) : State :=
  { s with responder := { s.responder with fault := {} } }.answer q .done []

/-- CLEAR_FAULT (R180). -/
def execClearFault (s : State) : Result := s.onRequest 19 State.clearFaultRequest

/-- RESTART: the reply is ready and a restart is pending on it (R182). -/
def State.restartRequest (s : State) (q : Request) : State :=
  { s.answer q .done [] with responder := { s.responder with restartPending := some q.entry } }

/-- RESTART (R182). -/
def execRestart (s : State) : Result := s.onRequest 20 State.restartRequest

/-! ### UNKNOWN_REQUEST (R171) -/

/-- UNKNOWN_REQUEST: a payload that fails the Responder's checks is refused BAD_ARGUMENT (R171). -/
def execUnknownRequest (s : State) : Result :=
  match s.nextRequest with
  | some (entry, f) =>
    if requestKnown (framePayload f) then .next s
    else .next ((s.reserve entry f).fillReply entry .badArgument [])
  | none => .next s

end Sys2Proof.Machine
end

