-- ==== Sys2Proof/Machine/ResetEvents.lean ====
section
/-!
DEFINITION. The two resets as commands: POWER_UP and RESET_LINE_INPUT. The restart that RESTART asks for is taken at
the end of its reply's transmission (`Machine/PortEvents.lean`).
-/

namespace Sys2Proof.Machine

open Sys2Proof

/-- POWER_UP (R80, R155, R136, R167, R184). -/
def execPowerUp (dram : DramStrap) (node : Octet) (s : State) : Result := .next (s.powerUp dram node)

/-- RESET_LINE_INPUT: a restart at once, whatever the engine is doing (R183). -/
def execResetLineInput (s : State) : Result := .next s.restart

end Sys2Proof.Machine
end

