-- ==== Sys2Proof/Machine/StoreEvents.lean ====
section
/-!
DEFINITION. The events of the Table Store that no request makes: the completion of a clear and the end of an
activation check (spec/08_table_store_and_activation.md).
-/

namespace Sys2Proof.Machine

open Sys2Proof

/-! ### CLEAR_COMPLETION (R140) -/

/-- The words of a bank with a whole segment cleared (R137, R140). -/
def clearSegment (m : WordMem) (segment : Nat) : WordMem := clearRange m (1024 * segment) (1024 * segment + 1024)

/-- The clear in flight ends: its highest unit is clear, and its reply is handed over (R140). -/
def State.completeClear (s : State) (c : Clear) : State :=
  let s := s.setBank c.bank { s.bank c.bank with words := clearSegment (s.words c.bank) c.segment }
  { s with store := { s.store with clear := none } }.fillReply c.reply .done
    (bankOctets c.bank ++ natToOctets 1 c.segment)

/-- CLEAR_COMPLETION (R140). -/
def execClearCompletion (s : State) : Result :=
  match s.store.clear with
  | some c => .next (s.completeClear c)
  | none => .next s

/-! ### ACTIVATION_CHECK_END (R149 to R151) -/

/-- The bank whose check is in flight; at most one is CHECKING (R146). -/
def State.checkingBank (s : State) : Option BankId :=
  if s.store.bankA.state = .checking then some .A
  else if s.store.bankB.state = .checking then some .B
  else none

/-- The bank that was ACTIVE at the other bank's pass: RETIRING while references name it, else STAGING (R150). -/
def Bank.replaced (b : Bank) : Bank :=
  if b.state = .active then { b with state := if 0 < b.refs then .retiring else .staging } else b

/-- The bank after a pass: its derived column is whole and it is ACTIVE (R150). -/
def Bank.activated (b : Bank) : Bank :=
  { b with words := writeDerived b.words 0 64, state := .active, activation := none, derivedDone := 0 }

/-- A record in work that was judged under bank `b` before its pass does not stand under it any longer (R93). -/
def State.lapseRecord (s : State) (b : BankId) : State :=
  { s with matcher := { s.matcher with work := s.matcher.work.withHandling fun h => h.afterPass b } }

/-- The pass of a check, as one event (R150). -/
def State.passCheck (s : State) (b : BankId) : State :=
  (((s.setBank b.other (s.bank b.other).replaced).setBank b (s.bank b).activated).lapseRecord b).wakeMatcher

/-- The bank after a failure: STAGING with the failing step's code; its derived area is not reached (R151). -/
def Bank.failed (b : Bank) (code : Nat) : Bank :=
  { b with state := .staging, activation := none, checkCode := code, derivedDone := 0 }

/-- The failure of a check at a step (R151, R179). -/
def State.failCheckAt (s : State) (b : BankId) (code : Nat) : State :=
  (s.setBank b ((s.bank b).failed code)).capture .activationFailed s.node b.code code

/-- The end of the check of bank `b`, as a pass or as the failure of a step. -/
def State.endCheckAs (s : State) (b : BankId) : Option Nat → State
  | none => s.passCheck b
  | some code => s.failCheckAt b code

/-- The end of the check of bank `b`. -/
def State.endCheck (s : State) (b : BankId) : State := s.endCheckAs b (checkFailure (s.words b))

/-- ACTIVATION_CHECK_END (R149 to R151). -/
def execActivationCheckEnd (s : State) : Result :=
  match s.checkingBank with
  | some b => .next (s.endCheck b)
  | none => .next s

end Sys2Proof.Machine
end

