-- ==== Sys2Proof/Machine/Dispatch.lean ====
section
/-!
DEFINITION. The dispatch of a command to its meaning.
-/

namespace Sys2Proof.Machine

open Sys2Proof

/-- The effect of a command on everything but the queue of commands. -/
def exec (i : Instr) (s : State) : Host.Outcome State Fault Refusal :=
  match i with
  | .powerUp dram node => Sys2Proof.Machine.execPowerUp dram node s
  | .resetLineInput => Sys2Proof.Machine.execResetLineInput s
  | .secondBoundary => Sys2Proof.Machine.execSecondBoundary s
  | .millisecondTick => Sys2Proof.Machine.execMillisecondTick s
  | .pauseRunsOut => Sys2Proof.Machine.execPauseRunsOut s
  | .frameReceived port octets => Sys2Proof.Machine.execFrameReceived port octets s
  | .frameOverlengthDiscard port kind source => Sys2Proof.Machine.execFrameOverlengthDiscard port kind source s
  | .farEndPauseAsserted port => Sys2Proof.Machine.execFarEndPauseAsserted port s
  | .farEndPauseReleased port => Sys2Proof.Machine.execFarEndPauseReleased port s
  | .frameBegin port => Sys2Proof.Machine.execFrameBegin port s
  | .frameTransmissionEnd port => Sys2Proof.Machine.execFrameTransmissionEnd port s
  | .tapFrameTaken => Sys2Proof.Machine.execTapFrameTaken s
  | .tapRecord => Sys2Proof.Machine.execTapRecord s
  | .reservationGranted => Sys2Proof.Machine.execReservationGranted s
  | .secondReservationGranted => Sys2Proof.Machine.execSecondReservationGranted s
  | .tapHoldGranted => Sys2Proof.Machine.execTapHoldGranted s
  | .assistExitTaken => Sys2Proof.Machine.execAssistExitTaken s
  | .jobTakenIntoWork => Sys2Proof.Machine.execJobTakenIntoWork s
  | .computationComplete => Sys2Proof.Machine.execComputationComplete s
  | .waitSettlementEnd => Sys2Proof.Machine.execWaitSettlementEnd s
  | .writeBack => Sys2Proof.Machine.execWriteBack s
  | .sweepHoldGranted => Sys2Proof.Machine.execSweepHoldGranted s
  | .sweeperSlotGranted => Sys2Proof.Machine.execSweeperSlotGranted s
  | .powerUpStartPassBucket => Sys2Proof.Machine.execPowerUpStartPassBucket s
  | .restartStartPassBucket => Sys2Proof.Machine.execRestartStartPassBucket s
  | .startPassSlotGranted => Sys2Proof.Machine.execStartPassSlotGranted s
  | .clearCompletion => Sys2Proof.Machine.execClearCompletion s
  | .activationCheckEnd => Sys2Proof.Machine.execActivationCheckEnd s
  | .status => Sys2Proof.Machine.execStatus s
  | .setTime => Sys2Proof.Machine.execSetTime s
  | .setTrim => Sys2Proof.Machine.execSetTrim s
  | .clearSegment => Sys2Proof.Machine.execClearSegment s
  | .writeUnit => Sys2Proof.Machine.execWriteUnit s
  | .writeNext => Sys2Proof.Machine.execWriteNext s
  | .setPointer => Sys2Proof.Machine.execSetPointer s
  | .readUnit => Sys2Proof.Machine.execReadUnit s
  | .schedule => Sys2Proof.Machine.execSchedule s
  | .unschedule => Sys2Proof.Machine.execUnschedule s
  | .readBanks => Sys2Proof.Machine.execReadBanks s
  | .sweepConfig => Sys2Proof.Machine.execSweepConfig s
  | .sweepStart => Sys2Proof.Machine.execSweepStart s
  | .sweepStop => Sys2Proof.Machine.execSweepStop s
  | .readToken => Sys2Proof.Machine.execReadToken s
  | .tokenRecordRead => Sys2Proof.Machine.execTokenRecordRead s
  | .assistExit => Sys2Proof.Machine.execAssistExit s
  | .setChannels => Sys2Proof.Machine.execSetChannels s
  | .readFault => Sys2Proof.Machine.execReadFault s
  | .clearFault => Sys2Proof.Machine.execClearFault s
  | .restart => Sys2Proof.Machine.execRestart s
  | .unknownRequest => Sys2Proof.Machine.execUnknownRequest s

end Sys2Proof.Machine
end

