-- ==== Sys2Proof/Safety.lean ====
section
/-!
DEFINITION. What the statements are made in: the invariants of the part, the bucket that a record must lie in, and what
the taking of a request does to the Office Port.
-/

namespace Sys2Proof.Machine

open Sys2Proof

/-! ### Invariants -/

/-- The words of both banks and the Token Table are in canonical form. -/
def State.storesCanonical (s : State) : Prop :=
  wordsWf s.store.bankA.words ∧ wordsWf s.store.bankB.words ∧ sparseRising s.table

/-- One settlement entry is spoken for while the FAU waits for its bucket (R20). -/
def FauState.claimsEntry : FauState → Nat
  | .waitHold _ _ => 1
  | _ => 0

/-- No queue holds more than its capacity, and the FAU in WAIT_HOLD still has its free settlement entry (R20, R160,
R162, R164, R166). -/
def State.withinCapacity (s : State) : Prop :=
  s.station.intake.length ≤ 32 ∧ s.office.intake.length ≤ 16 ∧ s.station.passDown.length ≤ 16 ∧
    s.office.passUp.length ≤ 16 ∧ s.station.verdicts.length = 32 ∧ s.office.replies.length = 8 ∧
    s.office.settlements.length + s.fau.state.claimsEntry ≤ 64

/-- A condition with thresholds `rise` and `fall`, as it stands with `n` frames queued: between the two it may be
either. -/
def conditionSound (rise fall n : Nat) (c : Bool) : Prop := (c = true → fall < n) ∧ (c = false → n < rise)

/-- The four pause conditions stand as R161 lets them stand with what is queued. -/
def State.pausesSound (s : State) : Prop :=
  conditionSound 28 20 s.station.intake.length s.station.intakeCondition ∧
    conditionSound 14 10 s.office.intake.length s.office.intakeCondition ∧
    conditionSound 12 8 s.office.passUp.length s.station.forwardCondition ∧
    conditionSound 12 8 s.station.passDown.length s.office.forwardCondition

/-- How the Matcher's slot request and reservations stand in each of its work states (R23, R24). -/
def MatcherWork.slotsSound (w : MatcherWork) (request : SlotRequest) (reserved : Nat) : Prop :=
  match w with
  | .none => request = .none ∧ reserved = 0
  | .waitReservation _ => (request = .waiting ∧ reserved = 0) ∨ (request = .granted ∧ reserved = 1)
  | .waitSecond _ => (request = .waiting ∧ reserved = 1) ∨ (request = .granted ∧ reserved = 2)
  | .rejudge _ | .waitHold _ | .waitToken _ | .waitBucket _ => request = .none ∧ (reserved = 1 ∨ reserved = 2)

/-- The eight job slots hold every job and every reservation, the Matcher's reservations stand as its work state says,
and the Sweeper holds at most one slot, and none while it waits for one (R21, R23 to R25). -/
def State.slotsSound (s : State) : Prop :=
  s.fau.jobs.length + s.slots.matcherReserved + s.slots.sweeperReserved ≤ 8 ∧
    s.matcher.work.slotsSound s.slots.matcherRequest s.slots.matcherReserved ∧
    s.slots.sweeperReserved ≤ 1 ∧ (s.slots.sweeperRequest = .waiting → s.slots.sweeperReserved = 0)

/-- At most one bank is ACTIVE, at most one is SCHEDULED or CHECKING, and a bank with a clear in flight is STAGING
(R140, R146). -/
def State.banksSound (s : State) : Prop :=
  ¬(s.store.bankA.state = .active ∧ s.store.bankB.state = .active) ∧
    ¬(s.store.bankA.onSchedule = true ∧ s.store.bankB.onSchedule = true) ∧
    ∀ c, s.store.clear = some c → (s.bank c.bank).state = .staging

/-- No bucket is held by two of the three holders (R73). -/
def State.holdsExclusive (s : State) : Prop :=
  ∀ (b : Nat) (x y : Holder) (p q : Reading), s.holds.get x = .held b p → s.holds.get y = .held b q → x = y

/-- The registers with a stated range stand within it: bucket count (R65), node number (R159), trim, length and phase
of the second, millisecond divider (R128, R130, R131), load pointer (R143), the Sweeper's pause, pointer and round count
(R110), channel 0 of the mask and of every mask read at a grant (R57), the last check codes (R138), and the segment and
units of a clear in flight (R139, R140). -/
def State.registersInRange (s : State) : Prop :=
  (s.bucketCount = 4096 ∨ s.bucketCount = 8192 ∨ s.bucketCount = 16384) ∧
    (1 ≤ s.node.toNat ∧ s.node.toNat ≤ 254) ∧
    (-1000 ≤ s.clock.trim ∧ s.clock.trim ≤ 1000) ∧
    (9999000 ≤ s.clock.length ∧ s.clock.length ≤ 10001000 ∧ s.clock.phase < s.clock.length) ∧
    s.clock.msDivider < 10000 ∧
    (s.store.pointerOffset % 4 = 0 ∧ s.store.pointerOffset ≤ 16384) ∧
    (1 ≤ s.sweeper.pause.toNat ∧ s.sweeper.pointer < s.bucketCount ∧ s.sweeper.round < s.bucketCount) ∧
    (s.fau.channels.getLsbD 0 = true ∧ ∀ who b r, s.holds.get who = .held b r → r.channels.getLsbD 0 = true) ∧
    (s.store.bankA.checkCode ≤ 10 ∧ s.store.bankB.checkCode ≤ 10) ∧
    ∀ c, s.store.clear = some c → c.segment ≤ 15 ∧ c.reached ≤ 255

/-! ### Requests -/

/-- The Responder may take a request now, and the next one is `f`, with request code `code`, for which it reserves the
reply entry `entry` (R170, R171, R182). -/
def State.takes (s : State) (code entry : Nat) (f : Frame) : Prop :=
  s.responder.inWork = none ∧ s.responder.restartPending = none ∧ s.office.intake.head? = some f ∧
    freePlace ReplyEntry.state s.office.replies = some entry ∧ requestKnown (framePayload f) = true ∧
    (requestCode (framePayload f)).toNat = code

/-- The commands that take a request from the office intake queue (R170, R171). -/
def requestCommands : List Instr :=
  [.status, .setTime, .setTrim, .clearSegment, .writeUnit, .writeNext, .setPointer, .readUnit, .schedule, .unschedule,
   .readBanks, .sweepConfig, .sweepStart, .sweepStop, .readToken, .assistExit, .setChannels, .readFault, .clearFault,
   .restart, .unknownRequest]

/-- The arguments of the request in a frame. -/
def argumentsOf (f : Frame) : List Octet := requestArguments (framePayload f)

/-- The reply entry of the request in frame `f`: its source node and sequence, its code and tag (R170, R171). -/
def entryFor (f : Frame) (state : PlaceState) (status : Status) (data : List Octet) : ReplyEntry :=
  { state := state, dest := frameSource f, sequence := frameSequence f, code := requestCode (framePayload f)
    tag := requestTag (framePayload f), status := status, data := data }

/-- The office intake queue after its oldest frame has left it, with its pause condition (R161). -/
def OfficePort.taken (p : OfficePort) : OfficePort :=
  { p with
    intake := p.intake.tail
    intakeCondition := if p.intake.length - 1 = 10 then false else p.intakeCondition }

/-- The Office Port after a request was taken and its reply entry reserved. -/
def State.officeReserved (s : State) (entry : Nat) (f : Frame) : OfficePort :=
  { s.office.taken with replies := s.office.replies.set entry (entryFor f .taken .done []) }

/-- The Office Port after a request was taken and answered at once: the reserved entry is filled and ready. -/
def State.officeAnswered (s : State) (entry : Nat) (f : Frame) (status : Status) (data : List Octet) : OfficePort :=
  { s.office.taken with
    replies := s.office.replies.set entry (entryFor f .ready status data)
    readyReplies := s.office.readyReplies ++ [entry] }

/-- The fault capture record after an attempt (R178). -/
def FaultCapture.after (f : FaultCapture) (kind : FaultKind) (time : LineTime) (source : Octet) (high low : BitVec 16) :
    FaultCapture :=
  if f.kind = .none then
    { kind := kind, lineTime := time, source := source, detailHigh := high, detailLow := low, since := 0 }
  else { f with since := if f.since = 65535 then 65535 else f.since + 1 }

/-- A unit write at offset `o` of bank `b` passes tests 2 to 5 of Table 8-1 (R142). -/
def State.unitWritable (s : State) (b : BankId) (o : Nat) : Prop :=
  (s.bank b).state = .staging ∧ (o < 1536 ∨ 1596 < o) ∧ s.store.clearing b o = false ∧
    ∀ i < 4, wordAt (s.words b) (o + i) = 4294967295

/-- Tests 2 to 5 of Table 8-1 at offset `o` of bank `b`: what `refused` says of the first that applies, with the fault
capture record after its attempt (R142, R143). -/
def State.unitRefusals (s : State) (f : Frame) (b : BankId) (o : Nat) (refused : Status → FaultCapture → Prop) : Prop :=
  let captured := fun (kind : FaultKind) => s.responder.fault.after kind s.clock.lineSeconds (frameSource f)
    (match b with | .A => 0 | .B => 1) (BitVec.ofNat 16 o)
  ((s.bank b).state ≠ .staging → refused .isProtected (captured .writeProtected)) ∧
    ((s.bank b).state = .staging → 1536 ≤ o → o ≤ 1596 → refused .isProtected (captured .writeProtected)) ∧
    ((s.bank b).state = .staging → o < 1536 ∨ 1596 < o → s.store.clearing b o = true → refused .busy s.responder.fault) ∧
    ((s.bank b).state = .staging → o < 1536 ∨ 1596 < o → s.store.clearing b o = false →
      (∃ i < 4, wordAt (s.words b) (o + i) ≠ 4294967295) → refused .notCleared (captured .writeNotCleared))

/-- `u` is `s` after the four words of the arguments from place `i` were written at offset `o` of bank `b`: they read
back, every other word of both banks is as before, and the load pointer names the next unit, as the reply does. -/
def State.unitWritten (s u : State) (entry : Nat) (f : Frame) (b : BankId) (o i : Nat) : Prop :=
  u = { s with
    store := u.store
    office := s.officeAnswered entry f .done ([match b with | .A => 0 | .B => (1 : Octet)] ++ natToOctets 2 (o + 4)) } ∧
    u.store.pointerBank = b ∧ u.store.pointerOffset = o + 4 ∧ u.store.clear = s.store.clear ∧
    u.bank b = { s.bank b with words := u.words b } ∧ u.bank b.other = s.bank b.other ∧
    ∀ k, wordAt (u.words b) k =
      if o ≤ k ∧ k < o + 4 then BitVec.ofNat 32 (fieldAt (argumentsOf f) (i + 4 * (k - o)) 4) else wordAt (s.words b) k

/-! ### Verdicts, records, counters -/

/-- The verdict entry at a position of a slot. -/
def State.verdictAt (s : State) (slot position : Nat) : Option VerdictEntry :=
  (s.station.verdicts[slot]?).bind fun v => v.entries[position]?

/-- The Station Port after the entry at a position of a slot became `e`: a claimed slot whose entries are then all
complete is ready, after those that became ready before it. The other entries and slots, and all else of the port, stay
(R164). -/
def StationPort.withEntry (p : StationPort) (slot position : Nat) (e : VerdictEntry) : StationPort :=
  match p.verdicts[slot]? with
  | none => p
  | some v =>
    let entries := v.entries.set position e
    let ready := v.state = .taken ∧ ∀ x ∈ entries, x.complete = true
    { p with
      verdicts := p.verdicts.set slot { v with entries := entries, state := if ready then .ready else v.state }
      readySlots := if ready then p.readySlots ++ [slot] else p.readySlots }

/-- The Matcher after the end of its record: a frame without a further record is no longer in work (R84). -/
def Matcher.recordEnded (m : Matcher) : Matcher :=
  { m with work := .none, frame := if m.frame.map (·.remaining) = some [] then none else m.frame }

/-- The Matcher is in the hold of bucket `b`, with what it read at the grant, for the tap record of the verdict entry
named, with no slot request (R92). -/
def State.inTapHold (s : State) (b : Nat) (read : Reading) (h : Handling) (slot position : Nat) (source : Octet) : Prop :=
  s.matcher.work = .waitHold h ∧ s.holds.matcher = .held b read ∧ h.origin = .tap slot position source ∧
    (s.verdictAt slot position).isSome = true ∧ s.slots.matcherRequest = .none

/-- The judging bank is in use since the record's station test, so that its tables may be looked up (R1). -/
def State.judgingInUse (s : State) (h : Handling) : Prop :=
  h.lapsed = false ∧ ((s.bank h.judging).state = .active ∨ (s.bank h.judging).state = .retiring)

/-- The judging bank is still ACTIVE, so that a bank claim on it succeeds (R93): it is ACTIVE, and has not passed
another check since the record's station test (log 31). -/
def State.judgingActive (s : State) (h : Handling) : Prop :=
  h.lapsed = false ∧ (s.bank h.judging).state = .active

/-- The record or request the Matcher has in work, once its station has been tested. -/
def MatcherWork.judged? : MatcherWork → Option Handling
  | .none | .rejudge _ => Option.none
  | .waitReservation h | .waitHold h | .waitToken h | .waitBucket h | .waitSecond h => some h

/-- While its judging bank stands and is in use, the station of the record or request in work is in force there, so that
every lookup of it reads an entry in force (R1, R29, R88). -/
def State.judgedInForce (s : State) : Prop :=
  ∀ h, s.matcher.work.judged? = some h → s.judgingInUse h →
    h.tap.station.toNat < stationCount (s.words h.judging)

/-- The tap is at the station and gate of the record's last tap (R94). -/
def Handling.repeatsTap (h : Handling) (r : TokenRecord) : Prop :=
  ∃ l, r.lastTap = some l ∧ l.station = h.tap.station ∧ l.gate = h.tap.gate

/-- The token's record in the bucket is `r` in way `w`, without a closing part and no duplicate (R92, R94); where the
debounce window decides that, the judging bank is in use (R1). -/
def State.tapFinds (s : State) (b : Nat) (h : Handling) (w : Nat) (r : TokenRecord) : Prop :=
  s.lookup b h.tap.token = some (w, r) ∧ r.closing = none ∧ isDuplicate (s.words h.judging) h r = false ∧
    (h.repeatsTap r → s.judgingInUse h)

/-- Every way but the one named reads in `t` as in `s`. -/
def State.sameWaysBut (s t : State) (b w : Nat) : Prop :=
  ∀ k, k ≠ wayKey b w → sparseGet t.table k = sparseGet s.table k

/-- Every way of every other bucket reads in `t` as in `s`. -/
def State.sameWaysOutside (s t : State) (b : Nat) : Prop :=
  ∀ k, ¬(8 * b ≤ k ∧ k < 8 * b + 8) → sparseGet t.table k = sparseGet s.table k

/-- The record with the spend of another day returned to zero (R41). -/
def TokenRecord.onDay (r : TokenRecord) (day : BitVec 16) : TokenRecord :=
  if r.spendDay = day then r else { r with spendDay := day, spentToday := 0, journeysToday := 0 }

/-- How many parts of a record name a bank. -/
def TokenRecord.namings (r : TokenRecord) (b : BankId) : Nat :=
  (if r.openPart.map (·.bank) = some b then 1 else 0) + (if r.closing.map (·.bank) = some b then 1 else 0) +
    if r.recent.map (·.bank) = some b then 1 else 0

/-- The hold of bucket `b` granted now: its holder reads the line clock and the channel mask (R41, R57, R92, R116). -/
def State.heldNow (s : State) (b : Nat) : Hold :=
  .held b { now := s.clock.lineSeconds, channels := s.fau.channels }

/-- The hold that a request for bucket `b` gives its requester: at once where nothing holds the bucket, waits for it
or reads it first (R73, R79; that a request waits behind a read still to be made is the model's choice, log 30). -/
def State.holdGiven (s : State) (b : Nat) : Hold :=
  if s.holds.heldIn b = false ∧ s.holds.waitedIn b = false ∧ s.readWaits b = false then s.heldNow b else .waiting b

/-- The holds after bucket `b` was released, where `h` is what the three blocks then hold or wait for: a READ TOKEN that
waits for the bucket comes first, then the FAU, the Matcher, the Sweeper (R73, R74, R79). -/
def State.holdsReleased (s : State) (h : Holds) (b : Nat) : Holds :=
  if s.readWaits b = true then h
  else if h.fau = .waiting b then { h with fau := s.heldNow b }
  else if h.matcher = .waiting b then { h with matcher := s.heldNow b }
  else if h.sweeper = .waiting b then { h with sweeper := s.heldNow b }
  else h

/-- The holds after the Matcher has released bucket `b`. -/
def State.matcherReleased (s : State) (b : Nat) : Holds := s.holdsReleased { s.holds with matcher := .none } b

/-- The holds after the Sweeper has released bucket `b`. -/
def State.sweeperReleased (s : State) (b : Nat) : Holds := s.holdsReleased { s.holds with sweeper := .none } b

/-- The holds after the Sweeper has released bucket `b` and then requested bucket `next`. -/
def State.sweeperGoesOn (s : State) (b next : Nat) : Holds :=
  { s.sweeperReleased b with sweeper := ({ s with holds := s.sweeperReleased b } : State).holdGiven next }

/-- The slots after the Matcher has asked for a reservation: granted at once where a slot is free, and then a Sweeper
that waits is granted another (R22). -/
def State.matcherAsked (s : State) : Slots :=
  let used := s.fau.jobs.length + s.slots.matcherReserved + s.slots.sweeperReserved
  let second := s.slots.sweeperRequest = .waiting ∧ used + 1 < 8
  if used < 8 then
    { matcherRequest := .granted, matcherReserved := s.slots.matcherReserved + 1
      sweeperRequest := if second then .granted else s.slots.sweeperRequest
      sweeperReserved := s.slots.sweeperReserved + (if second then 1 else 0) }
  else { s.slots with matcherRequest := .waiting }

/-- The slots after the Matcher, which asks for none, has returned those it holds reserved, with `jobs` jobs queued: a
Sweeper that waits is granted a free slot (R22, R23). -/
def State.matcherReturned (s : State) (jobs : Nat) : Slots :=
  let granted := s.slots.sweeperRequest = .waiting ∧ jobs + s.slots.sweeperReserved < 8
  { matcherRequest := .none, matcherReserved := 0
    sweeperRequest := if granted then .granted else s.slots.sweeperRequest
    sweeperReserved := s.slots.sweeperReserved + (if granted then 1 else 0) }

/-- How a tap record ends in the hold of bucket `b`: its verdict entry is `e`, its frame leaves work with its last
record, the bucket is released to the block that waits for it, and every slot reserved for it is returned (R22, R73,
R84, R106, R164). -/
def State.tapEnds (s t : State) (b slot position : Nat) (e : VerdictEntry) : Prop :=
  t.verdictAt slot position = some e ∧ t.station = s.station.withEntry slot position e ∧
    t.matcher = s.matcher.recordEnded ∧ t.holds = s.matcherReleased b ∧ t.slots = s.matcherReturned t.fau.jobs.length

/-- The slots after the Sweeper has returned what it holds or asks for: a Matcher that waits is granted a free slot
(R22, R25). -/
def State.sweeperReturned (s : State) : Slots :=
  let granted := s.slots.matcherRequest = .waiting ∧ s.fau.jobs.length + s.slots.matcherReserved < 8
  { matcherRequest := if granted then .granted else s.slots.matcherRequest
    matcherReserved := s.slots.matcherReserved + (if granted then 1 else 0)
    sweeperRequest := .none, sweeperReserved := 0 }

/-- The banks in `t` are those of `s` after `n k` references to each bank `k` were released: its count is that much
lower, and a RETIRING bank that this brings to 0 outside a restart's start pass is STAGING (R152, R153). -/
def State.banksReleased (s t : State) (n : BankId → Nat) : Prop :=
  t.store = { s.store with bankA := t.store.bankA, bankB := t.store.bankB } ∧
    ∀ k, t.bank k = { s.bank k with
      refs := (s.bank k).refs - n k
      state := if 0 < n k ∧ (s.bank k).state = .retiring ∧ (s.bank k).refs - n k = 0 ∧ s.inRestartPass = false then .staging
        else (s.bank k).state }

/-- The FAU's release of bucket `b`, from which it removed a closing part of the token: a Matcher that waits for that
part, or for a way of the bucket, seeks the bucket again, and has it unless a READ TOKEN reads it first (R70, R76,
R79; that it comes before a Sweeper that waits is the model's choice, log 33). -/
def State.noticed (s t : State) (b : Nat) (token : Token) : Prop :=
  (∀ h, (s.matcher.work = .waitToken h ∧ h.tap.token = token) ∨
      (s.matcher.work = .waitBucket h ∧ s.bucketOf h.tap.token = b) →
    t.matcher = { s.matcher with work := .waitHold h } ∧
    t.holds = { s.holds with fau := .none, matcher := if s.readWaits b = true then .waiting b else s.heldNow b }) ∧
  ((∀ h, s.matcher.work = .waitToken h → h.tap.token ≠ token) →
    (∀ h, s.matcher.work = .waitBucket h → s.bucketOf h.tap.token ≠ b) →
    t.matcher = s.matcher ∧ t.holds = s.holdsReleased { s.holds with fau := .none } b)

/-- The recent-expiry part is overdue at a line time: its expiry is of another service day, or longer ago than the
correction window of its bank (R118). -/
def State.overdue (s : State) (now : LineTime) (p : RecentPart) : Bool :=
  decide (serviceDay p.expiryTime ≠ serviceDay now ∨ correctionWindow (s.words p.bank) < now.toNat - p.expiryTime.toNat)

/-- An examination of bucket `b` at sweep now `now` drops a recent-expiry part that names bank `k` from way `w` (R116,
R118). -/
def State.dropsPart (s : State) (b : Nat) (now : LineTime) (k : BankId) (w : Nat) : Bool :=
  match s.way b w with
  | some r => r.closing.isNone && r.recent.any fun p => s.overdue now p && decide (p.bank = k)
  | none => false

/-- How many recent-expiry parts that name bank `k` an examination of bucket `b` drops. -/
def State.partsDropped (s : State) (b : Nat) (now : LineTime) (k : BankId) : Nat :=
  ((List.range 8).filter (s.dropsPart b now k)).length

/-- The bucket at the pointer once the bucket there is fully examined (R114). -/
def State.nextPointer (s : State) : Nat := (s.sweeper.pointer + 1) % s.bucketCount

/-- The Sweeper after the full examination of a bucket: the pointer and the round advance, a completed round is counted,
and the burst goes on, or ends after its fourth bucket in PAUSE, in IDLE in STOPPING or after a SINGLE pass (R114,
R121). -/
def State.sweeperExamined (s : State) : Sweeper :=
  let round := s.sweeper.round + 1 = s.bucketCount
  let complete := s.sweeper.passComplete = true ∨ (round ∧ s.sweeper.mode = .single)
  let goesOn := s.sweeper.burstDone + 1 < 4
  let ends := s.sweeper.state = .stopping ∨ (s.sweeper.mode = .single ∧ complete)
  { s.sweeper with
    pointer := s.nextPointer
    round := if round then 0 else s.sweeper.round + 1
    passCounter := if round then s.sweeper.passCounter + 1 else s.sweeper.passCounter
    passComplete := decide complete
    burstDone := s.sweeper.burstDone + 1
    state := if goesOn then s.sweeper.state else if ends then .idle else .pause
    ticks := if goesOn ∨ ends then s.sweeper.ticks else 0 }

/-- The holds after the full examination of bucket `b`: it is released, and a burst that goes on requests the next. -/
def State.holdsExamined (s : State) (b : Nat) : Holds :=
  if s.sweeper.burstDone + 1 < 4 then s.sweeperGoesOn b s.nextPointer else s.sweeperReleased b

/-! ### Where the fields of what is sent lie -/

/-- Bits 0 to 8 of a settlement's flags, and no other (Table 9-4). -/
def flagBits (n : Nat) (f : SettleFlags) : Prop :=
  n < 512 ∧ n.testBit 0 = f.entryClamped ∧ n.testBit 1 = f.exitClamped ∧ n.testBit 2 = f.exitBeforeEntry ∧
    n.testBit 3 = f.late ∧ n.testBit 4 = f.capUntracked ∧ n.testBit 5 = f.assisted ∧ n.testBit 6 = f.overrideUsed ∧
    n.testBit 7 = f.resubmitted ∧ n.testBit 8 = f.provisional

/-- Bits 0 to 3 of a verdict's flags, and no other (Table 9-3). -/
def verdictBits (n : Nat) (f : VerdictFlags) : Prop :=
  n < 16 ∧ n.testBit 0 = f.clamped ∧ n.testBit 1 = f.late ∧ n.testBit 2 = f.previousClosed ∧
    n.testBit 3 = f.exitBeforeEntry

/-- Station, gate and time stand at place `i`. -/
def legAt (d : List Octet) (i : Nat) (l : Leg) : Prop :=
  octetAt d i = l.station ∧ octetAt d (i + 1) = l.gate ∧ fieldAt d (i + 2) 4 = l.time.toNat

/-- The fields of a VERDICT payload (Table 9-3). -/
def verdictFields (v : VerdictSlot) (d : List Octet) : Prop :=
  d.length = 1 + 8 * v.entries.length ∧ fieldAt d 0 1 = v.entries.length % 256 ∧
    ∀ i e kind, v.entries[i]? = some e → e.kind = some kind →
      fieldAt d (1 + 8 * i) 1 = kind.code ∧ verdictBits (fieldAt d (2 + 8 * i) 1) e.flags ∧
      fieldAt d (3 + 8 * i) 4 = (e.charge % 4294967296).toNat ∧ fieldAt d (7 + 8 * i) 2 = e.capRoom.toNat

/-- The fields of a SETTLEMENT payload, with the absence values of Table 3-3 (Table 9-4). -/
def settlementFields (x : Settlement) (d : List Octet) : Prop :=
  d.length = 44 + 5 * x.shares.length ∧ fieldAt d 0 4 = x.serial.toNat ∧ fieldAt d 4 1 = x.journey.code ∧
    flagBits (fieldAt d 5 2) x.flags ∧ fieldAt d 7 8 = x.token.toNat ∧ octetAt d 15 = x.cls ∧
    legAt d 16 ((x.journey.entry?).getD ⟨255, 0, 0⟩) ∧ octetAt d 22 = 0 ∧
    legAt d 23 ((x.journey.exit?).getD ⟨255, 0, 0⟩) ∧ fieldAt d 29 4 = x.version.toNat ∧
    fieldAt d 33 2 = x.distance % 65536 ∧ fieldAt d 35 2 = x.fare % 65536 ∧
    fieldAt d 37 4 = (x.amount % 4294967296).toNat ∧ fieldAt d 41 2 = x.spentAfter.toNat ∧
    fieldAt d 43 1 = x.shares.length % 256 ∧
    ∀ j h, x.shares[j]? = some h →
      fieldAt d (44 + 5 * j) 1 = h.operator % 256 ∧ fieldAt d (45 + 5 * j) 4 = (h.amount % 4294967296).toNat

/-- The code of the FAU's state in a STATUS reply, WRITE_BACK from the grant of the bucket on (R19, Table 9-9). -/
def State.fauCode (s : State) : Nat :=
  match s.fau.state, s.holds.fau with
  | .idle, _ => 0
  | .computing _, _ => 1
  | .waitSettlement _ _, _ => 2
  | .waitHold _ _, .held _ _ => 4
  | .waitHold _ _, _ => 3

/-- The code of the Matcher's work state in a STATUS reply, HOLDING from the grant of the bucket on (R84, R86, Table
9-9). -/
def State.workCode (s : State) : Nat :=
  match s.matcher.work, s.holds.matcher with
  | .none, _ =>
    if s.matcher.frame ≠ none then 2
    else if s.station.intake ≠ [] ∧ freePlace VerdictSlot.state s.station.verdicts = none then 1
    else 0
  | .rejudge _, _ => 2
  | .waitReservation _, _ => 3
  | .waitHold _, .held _ _ => 5
  | .waitHold _, _ => 4
  | .waitToken _, _ => 6
  | .waitBucket _, _ => 7
  | .waitSecond _, _ => 8

/-- The fields of a STATUS reply's data (R174, Table 9-6). -/
def State.statusFields (s : State) (d : List Octet) : Prop :=
  d.length = 60 ∧ fieldAt d 0 4 = s.clock.lineSeconds.toNat ∧ fieldAt d 4 1 = (if s.clock.set = true then 1 else 0) ∧
    fieldAt d 5 2 = (s.clock.trim % 65536).toNat ∧ fieldAt d 7 1 = s.matcher.readiness.code ∧
    fieldAt d 8 1 = s.workCode ∧ fieldAt d 9 1 = s.fauCode ∧ fieldAt d 10 1 = s.fau.jobs.length % 256 ∧
    fieldAt d 11 1 = s.sweeper.state.code ∧ fieldAt d 12 1 = s.sweeper.mode.code ∧ octetAt d 13 = 0 ∧
    fieldAt d 14 2 = s.sweeper.pause.toNat ∧
    fieldAt d 16 2 = (if s.sweeper.state = .startPass then s.sweeper.passBucket else s.sweeper.pointer) % 65536 ∧
    fieldAt d 18 4 = s.sweeper.passCounter.toNat ∧
    fieldAt d 22 1 = (if s.sweeper.passComplete = true then 1 else 0) ∧ fieldAt d 23 2 = s.bucketCount % 65536 ∧
    octetAt d 25 = s.node ∧ fieldAt d 26 1 = s.store.bankA.state.code ∧ fieldAt d 27 1 = s.store.bankB.state.code ∧
    fieldAt d 28 1 = s.responder.discardedSettlements % 256 ∧ fieldAt d 29 3 = 0 ∧
    fieldAt d 32 4 = s.responder.counters.tapsTaken.toNat ∧ fieldAt d 36 4 = s.responder.counters.tapsRefused.toNat ∧
    fieldAt d 40 4 = s.responder.counters.duplicates.toNat ∧
    fieldAt d 44 4 = s.responder.counters.settlementsEmitted.toNat ∧
    fieldAt d 48 4 = s.responder.counters.evictions.toNat ∧ fieldAt d 52 4 = s.responder.counters.displacements.toNat ∧
    fieldAt d 56 4 = s.responder.counters.framesDiscarded.toNat

/-- The fields of one bank from place `i` of a READ BANKS reply (Table 9-8). -/
def Bank.fields (k : Bank) (d : List Octet) (i : Nat) : Prop :=
  fieldAt d i 1 = k.state.code ∧ fieldAt d (i + 1) 4 = (k.activation.getD 0).toNat ∧
    fieldAt d (i + 5) 1 = k.checkCode % 256 ∧ fieldAt d (i + 6) 4 = k.refs % 4294967296 ∧
    fieldAt d (i + 10) 4 = (wordAt k.words 0).toNat

/-- The fields of a READ BANKS reply's data (R138, Table 9-8). -/
def TableStore.fields (t : TableStore) (d : List Octet) : Prop :=
  d.length = 33 ∧ t.bankA.fields d 0 ∧ t.bankB.fields d 14 ∧ fieldAt d 28 1 = t.pointerBank.code ∧
    fieldAt d 29 2 = t.pointerOffset % 65536 ∧
    (t.clear = none → fieldAt d 31 1 = 255 ∧ fieldAt d 32 1 = 255) ∧
    ∀ c, t.clear = some c → fieldAt d 31 1 = c.bank.code ∧ fieldAt d 32 1 = c.segment % 256

/-- The fields of a READ FAULT reply's data (R178, Table 9-5). -/
def FaultCapture.fields (f : FaultCapture) (d : List Octet) : Prop :=
  d.length = 12 ∧ fieldAt d 0 1 = f.kind.code ∧ fieldAt d 1 4 = f.lineTime.toNat ∧ octetAt d 5 = f.source ∧
    fieldAt d 6 2 = f.detailHigh.toNat ∧ fieldAt d 8 2 = f.detailLow.toNat ∧ fieldAt d 10 2 = f.since.toNat

/-- The fields of a READ TOKEN reply's data; a part that is not held, and an absent last tap, are zeros (Table 9-7). -/
def TokenRecord.fields (r : TokenRecord) (d : List Octet) : Prop :=
  d.length = 71 ∧ fieldAt d 0 8 = r.token.toNat ∧ fieldAt d 8 2 = r.spendDay.toNat ∧
    fieldAt d 10 2 = r.spentToday.toNat ∧ octetAt d 12 = r.journeysToday ∧
    fieldAt d 13 1 = (if r.lastTap.isSome = true then 1 else 0) ∧ legAt d 14 (r.lastTap.getD ⟨0, 0, 0⟩) ∧
    fieldAt d 20 4 = r.lastActivity.toNat ∧
    ((fieldAt d 24 1).testBit 0 = r.openPart.isSome ∧ (fieldAt d 24 1).testBit 1 = r.closing.isSome ∧
      (fieldAt d 24 1).testBit 2 = r.recent.isSome ∧ fieldAt d 24 1 < 8) ∧
    (r.openPart = none → fieldAt d 25 9 = 0) ∧
    (∀ o, r.openPart = some o → legAt d 25 o.entry ∧ octetAt d 31 = o.cls ∧ fieldAt d 32 1 = o.bank.code ∧
      (fieldAt d 33 1).testBit 0 = o.timeClamped ∧ (fieldAt d 33 1).testBit 1 = o.late ∧ fieldAt d 33 1 < 4) ∧
    (r.closing = none → fieldAt d 34 22 = 0) ∧
    (∀ c, r.closing = some c → fieldAt d 34 1 = c.journey.code ∧ fieldAt d 35 2 = c.tag.toNat ∧
      fieldAt d 37 1 = c.bank.code ∧ octetAt d 38 = c.cls ∧ (∀ e, c.journey.entry? = some e → legAt d 39 e) ∧
      (∀ x, c.journey.exit? = some x → legAt d 45 x) ∧
      (∀ n, c.journey.oldCharge? = some n → fieldAt d 51 2 = n.toNat) ∧
      fieldAt d 53 1 = (match c.ref with | .none => 0 | .verdict _ _ => 1 | .reply _ => 2) ∧
      flagBits (fieldAt d 54 2) c.flags) ∧
    octetAt d 56 = 0 ∧ (r.recent = none → fieldAt d 57 14 = 0) ∧
    ∀ p, r.recent = some p → legAt d 57 p.entry ∧ octetAt d 63 = p.cls ∧ fieldAt d 64 1 = p.bank.code ∧
      fieldAt d 65 4 = p.expiryTime.toNat ∧ fieldAt d 69 2 = p.charged.toNat

/-! ### Insertions -/

/-- The record with parts that an insertion removes from its way (R68, R69). A stale record in a free way has no
part. -/
def Placement.removed : Placement → Option TokenRecord
  | .evict _ r => some r
  | .displace _ r _ => some r
  | _ => none

/-- The jobs that an insertion makes, with the tag that the FAU's counter gives: the DISPLACED job of R69. -/
def Placement.jobs (p : Placement) (tag : BitVec 16) : List Job :=
  match p with
  | .displace _ r o =>
    [{ journey := .displaced o.entry, tag := tag, token := r.token, bank := o.bank, cls := o.cls, ref := .none
       flags := { entryClamped := o.timeClamped, late := o.late, provisional := true } }]
  | _ => []

/-- The Responder after a tap of `source` that was taken with an insertion into bucket `b` (R68, R69, R106, R179). -/
def State.insertionSeen (s : State) (b : Nat) (p : Placement) (source : Octet) : Responder :=
  let counted := { s.responder.counters with tapsTaken := s.responder.counters.tapsTaken + 1 }
  match p with
  | .evict _ _ => { s.responder with counters := { counted with evictions := s.responder.counters.evictions + 1 } }
  | .displace _ _ _ => { s.responder with
      counters := { counted with displacements := s.responder.counters.displacements + 1 }
      fault := s.responder.fault.after .recordDisplaced s.clock.lineSeconds source 0 (BitVec.ofNat 16 b) }
  | _ => { s.responder with counters := counted }

/-- The bank whose reference an insertion releases: that of the recent-expiry part it drops (R68, R69). -/
def Placement.dropped (p : Placement) : Option BankId := (p.removed.bind (·.recent)).map (·.bank)

/-- The banks in `t` are those of `s` after an insertion of a record whose part names `made`: one reference made (R93),
one released where a recent-expiry part was dropped, which makes a RETIRING bank STAGING at 0 (R152, R153). -/
def State.insertionBanks (s t : State) (p : Placement) (made : BankId) : Prop :=
  t.store = { s.store with bankA := t.store.bankA, bankB := t.store.bankB } ∧
    ∀ k, let n := (s.bank k).refs + (if k = made then 1 else 0) - (if p.dropped = some k then 1 else 0)
      t.bank k = { s.bank k with
        refs := n
        state := if p.dropped = some k ∧ (s.bank k).state = .retiring ∧ n = 0 ∧ s.inRestartPass = false then .staging
          else (s.bank k).state }

/-- A tap in the hold of bucket `b` is put off: the bucket is released to the block that waits for it, the Matcher's
work is `w`, and nothing else changes. -/
def State.putsOff (s : State) (b : Nat) (w : MatcherWork) : Prop :=
  exec .tapHoldGranted s = .next { s with matcher := { s.matcher with work := w }, holds := s.matcherReleased b }

/-! ### Tables of a bank -/

/-- Override pair `p` is in force and names the two stations, taken in either order (R8). -/
def overrideNames (m : WordMem) (p a z : Nat) : Prop :=
  p < overrideCount m ∧ overrideA m p < overrideB m p ∧
    ((overrideA m p = a ∧ overrideB m p = z) ∨ (overrideA m p = z ∧ overrideB m p = a))

/-- The condition of a step of the activation check (Table 8-4); the ranges of step 3 are those of Tables 1-2 and
1-3. -/
def stepHolds (m : WordMem) : Nat → Prop
  | 1 => checksum m = 0
  | 2 => (2 ≤ stationCount m ∧ stationCount m ≤ 64) ∧ branchCount m ≤ 3 ∧ (1 ≤ tierCount m ∧ tierCount m ≤ 6) ∧
      (1 ≤ operatorCount m ∧ operatorCount m ≤ 4) ∧ overrideCount m ≤ 64 ∧ holidayCount m ≤ 16 ∧
      territoryCount m ≤ 16 ∧ denyCount m ≤ 4096 ∧ ∀ d < 3, 1 ≤ bandCount m d ∧ bandCount m d ≤ 8
  | 3 => (boardingCharge m ≤ 65535 ∧ maxFare m ≤ 65535 ∧ minFare m ≤ maxFare m) ∧
      (1 ≤ fareStep m ∧ fareStep m ≤ 100) ∧ roundingMode m ≤ 2 ∧ weekdayOffset m ≤ 6 ∧
      (600 ≤ maxJourneyDuration m ∧ maxJourneyDuration m ≤ 28800) ∧ cancelWindow m ≤ 3600 ∧
      (1 ≤ debounceWindow m ∧ debounceWindow m ≤ 60) ∧ correctionWindow m ≤ 14400 ∧
      (60 ≤ lateLimit m ∧ lateLimit m ≤ 86400) ∧ ∀ w < 7, dayTypeMap m w ≤ 2
  | 4 => ∀ s < stationCount m, stationBranch m s ≤ branchCount m
  | 5 => ∀ i, 1 ≤ i → i + 1 < tierCount m → tierBoundary m i < tierBoundary m (i + 1)
  | 6 => ∀ d < 3, bandStart m d 0 = 0 ∧ ∀ j, j + 1 < bandCount m d → bandStart m d j < bandStart m d (j + 1)
  | 7 => ∀ h, h + 1 < holidayCount m → holiday m h < holiday m (h + 1)
  | 8 => (∀ p < overrideCount m, overrideA m p < overrideB m p ∧ overrideB m p < stationCount m) ∧
      ∀ p, p + 1 < overrideCount m → overrideA m p < overrideA m (p + 1) ∨
        (overrideA m p = overrideA m (p + 1) ∧ overrideB m p < overrideB m (p + 1))
  | 9 => (∀ t < territoryCount m, territoryFrom m t < territoryTo m t ∧ territoryBranch m t ≤ branchCount m ∧
        territoryOperator m t < operatorCount m) ∧
      ∀ t < territoryCount m, ∀ u < territoryCount m, t ≠ u → territoryBranch m t = territoryBranch m u →
        ∀ x, ¬((territoryFrom m t ≤ x ∧ x < territoryTo m t) ∧ territoryFrom m u ≤ x ∧ x < territoryTo m u)
  | 10 => (∀ i < denyCount m, denyToken m i ≠ 0) ∧
      ∀ i, i + 1 < denyCount m → (denyToken m i).toNat < (denyToken m (i + 1)).toNat
  | _ => True

/-- The words of the bank of a clear in flight after a reset ended it (R141): outside the segment they are kept, the
units below some unit are clear, that unit has each word kept or cleared and is no clear unit where it was none, and the
units above it are kept. -/
def clearBroken (c : Clear) (before after : WordMem) : Prop :=
  let base := 1024 * c.segment
  (∀ o, o < base ∨ base + 1024 ≤ o → wordAt after o = wordAt before o) ∧
    ∃ n, c.reached ≤ n ∧ n ≤ 255 ∧
      (∀ o, base ≤ o → o < base + 4 * n → wordAt after o = 4294967295) ∧
      (∀ o, base + 4 * n ≤ o → o < base + 4 * n + 4 → wordAt after o = wordAt before o ∨ wordAt after o = 4294967295) ∧
      ((∃ i < 4, wordAt before (base + 4 * n + i) ≠ 4294967295) →
        ∃ i < 4, wordAt after (base + 4 * n + i) ≠ 4294967295) ∧
      ∀ o, base + 4 * n + 4 ≤ o → o < base + 1024 → wordAt after o = wordAt before o

end Sys2Proof.Machine
end

