-- ==== Sys2Proof/Certificates/Slice0/Obligations.lean ====
section
/-!
DEFINITION. The statements for the provers. Each docstring names the rules it formalises, or says that the statement is
of the model's own choice. "Answers" means: `exec` answers that next state; the queue of waiting commands is part of
every frame, since a frame says the whole next state but for the fields it names.
-/

open Sys2Proof Sys2Proof.Machine

/-! ### The machine -/

/-- A step takes the command at the front of the queue and is `exec` of it on the rest of the queue. -/
def Obligations.StepRunsTheFrontCommand : Prop :=
  ∀ (c : Instr) (rest : List Instr) (s : State), s.pending = c :: rest → step s = exec c { s with pending := rest }

/-- On an empty queue one period of the 10 MHz input goes by (R128, R131; the model's choice, log 4): both dividers
count, and each makes its event at the period that brings it to its length; where one period does both, both events come
in it, and that the second boundary is taken first is the model's choice too. -/
def Obligations.IdleStepIsOneReferencePeriod : Prop :=
  ∀ s : State, s.pending = [] →
    (s.clock.phase + 1 < s.clock.length → s.clock.msDivider + 1 < 10000 →
      step s = .next { s with clock :=
        { s.clock with phase := s.clock.phase + 1, msDivider := s.clock.msDivider + 1 } }) ∧
    (s.clock.length ≤ s.clock.phase + 1 → s.clock.msDivider + 1 < 10000 →
      ∃ t, exec .secondBoundary s = .next t ∧
        step s = .next { t with clock := { t.clock with msDivider := s.clock.msDivider + 1 } }) ∧
    (s.clock.phase + 1 < s.clock.length → 10000 ≤ s.clock.msDivider + 1 →
      step s = exec .millisecondTick { s with clock := { s.clock with phase := s.clock.phase + 1 } }) ∧
    (s.clock.length ≤ s.clock.phase + 1 → 10000 ≤ s.clock.msDivider + 1 →
      ∃ t, exec .secondBoundary s = .next t ∧ step s = exec .millisecondTick t)

/-- Every command answers a next state, in every state, and leaves the commands that wait as they are. This is the
model's choice: no command stops the part (log 24), and one given where its event cannot come about changes nothing (log
1). -/
def Obligations.EveryCommandAnswersAndKeepsTheQueue : Prop :=
  ∀ (c : Instr) (s : State), ∃ t, exec c s = .next t ∧ t.pending = s.pending

/-! ### Invariants that every step keeps -/

/-- The two addressed stores stay in canonical form. -/
def Obligations.StoresStayCanonical : Prop :=
  ∀ s t : State, s.storesCanonical → step s = .next t → t.storesCanonical

/-- No queue ever holds more than its capacity, and a settlement entry the FAU has waited for stays free (R20, R160,
R162, R164, R166). -/
def Obligations.QueuesStayWithinCapacity : Prop :=
  ∀ s t : State, s.withinCapacity → step s = .next t → t.withinCapacity

/-- The four pause conditions stay between their thresholds: asserted at the upper, released at the lower (R161). -/
def Obligations.PauseConditionsFollowTheirThresholds : Prop :=
  ∀ s t : State, s.pausesSound → step s = .next t → t.pausesSound

/-- The job queue does not overflow, and reservations stand as the Matcher's work state says (R21 to R25). -/
def Obligations.JobSlotsNeverOverflow : Prop :=
  ∀ s t : State, s.slotsSound → step s = .next t → t.slotsSound

/-- At most one bank is ACTIVE, at most one SCHEDULED or CHECKING, and a bank being cleared is STAGING; and where a bank
is ACTIVE, one stays ACTIVE through every step, the resets among them (R140, R146, R155, R156). The station of a record
or request in work stays in force in its judging bank while that bank stands and is in use, so that a lookup of it reads
an entry in force (R1, R29, R88, R93; which bank stands by log 31). -/
def Obligations.BankStatesStaySound : Prop :=
  ∀ s t : State, s.banksSound → step s = .next t →
    t.banksSound ∧ (s.activeBank.isSome = true → t.activeBank.isSome = true) ∧
      (s.judgedInForce → t.judgedInForce)

/-- No bucket is ever held by two holders (R73). -/
def Obligations.HoldsStayExclusive : Prop :=
  ∀ s t : State, s.holdsExclusive → step s = .next t → t.holdsExclusive

/-- The registers with a stated range never leave it (R57, R65, R110, R128, R130, R131, R138, R139, R140, R143, R159),
and the discarded settlement count stays within 0 to 64 (R167). -/
def Obligations.RegistersStayInRange : Prop :=
  (∀ s t : State, s.registersInRange → step s = .next t → t.registersInRange) ∧
  ∀ s t : State, s.withinCapacity → s.responder.discardedSettlements ≤ 64 → step s = .next t →
    t.responder.discardedSettlements ≤ 64

/-- The state after reset meets every one of those invariants. -/
def Obligations.ResetMeetsEveryInvariant : Prop :=
  State.reset.storesCanonical ∧ State.reset.withinCapacity ∧ State.reset.pausesSound ∧ State.reset.slotsSound ∧
    State.reset.banksSound ∧ State.reset.judgedInForce ∧ State.reset.holdsExclusive ∧ State.reset.registersInRange ∧
    State.reset.responder.discardedSettlements ≤ 64

/-! ### Rules of the whole part -/

/-- No command changes a word of a bank that is not STAGING, but for the derived area of a bank in CHECKING (R145). -/
def Obligations.FrozenBanksKeepTheirWords : Prop :=
  ∀ (c : Instr) (s t : State) (b : BankId), s.banksSound → (s.bank b).state ≠ .staging → exec c s = .next t →
    ((s.bank b).state ≠ .checking → t.words b = s.words b) ∧
    ∀ offset, ¬(1536 ≤ offset ∧ offset ≤ 1599) → wordAt (t.words b) offset = wordAt (s.words b) offset

/-- The Token Table changes under a hold alone, and then in the held bucket alone (R73), or at a power-up. Every other
command, a restart among them, leaves every record as it stands (R81), and so does a command of a block that holds no
bucket. -/
def Obligations.RecordsChangeOnlyInTheHeldBucket : Prop :=
  (∀ (c : Instr) (s t : State), exec c s = .next t → t.table = s.table ∨ c = .tapHoldGranted ∨ c = .writeBack ∨
      c = .sweepHoldGranted ∨ c = .powerUpStartPassBucket ∨ c = .restartStartPassBucket ∨
      ∃ dram node, c = .powerUp dram node) ∧
  (∀ s t : State, (∀ b r, s.holds.matcher ≠ .held b r) → exec .tapHoldGranted s = .next t → t.table = s.table) ∧
  (∀ s t : State, (∀ b r, s.holds.fau ≠ .held b r) → exec .writeBack s = .next t → t.table = s.table) ∧
  (∀ (c : Instr) (s t : State), (∀ b r, s.holds.sweeper ≠ .held b r) →
    c = .sweepHoldGranted ∨ c = .powerUpStartPassBucket ∨ c = .restartStartPassBucket →
    exec c s = .next t → t.table = s.table) ∧
  (∀ (s t : State) (b : Nat) (r : Reading), s.holds.matcher = .held b r → exec .tapHoldGranted s = .next t →
    s.sameWaysOutside t b) ∧
  (∀ (s t : State) (b : Nat) (r : Reading), s.holds.fau = .held b r → exec .writeBack s = .next t →
    s.sameWaysOutside t b) ∧
  ∀ (c : Instr) (s t : State) (b : Nat) (r : Reading), s.holds.sweeper = .held b r →
    c = .sweepHoldGranted ∨ c = .powerUpStartPassBucket ∨ c = .restartStartPassBucket →
    exec c s = .next t → s.sameWaysOutside t b

/-! ### Resets -/

/-- A power-up: the straps and the trim descriptor are read, the records and all volatile state are gone, a CHECKING
bank is SCHEDULED and a RETIRING one STAGING, every other bank state and the banks' times and codes are kept, and the
power-up start pass stands at bucket 0 (R39, R51, R57, R65, R80, R109, R110, R136, R155, R159, R161, R164 to R167, R178,
R181, R184). Every word is kept, but for the derived area of a bank whose check was in flight, and for the segment of a
clear in flight: its units are clear up to some unit, that one may be so in part, and those above stand as they did
(R141; how far it came is free, logs 13, 14). By the model's choice the far end's pauses are kept (log 11), the table
stands empty until the pass has written it (log 12), the two registers of the computation hold 0 (log 19), and the
Sweeper holds bucket 0 at once, with a reading that no rule uses (log 2); the free verdict slots and reply entries hold
nothing (log 35). -/
def Obligations.PowerUpState : Prop :=
  ∀ (dram : DramStrap) (node : Octet) (s : State), ∃ t, exec (.powerUp dram node) s = .next t ∧
    t.table = [] ∧ t.bucketCount = dramBuckets dram ∧ t.node = (if node = 0 ∨ node = 255 then 1 else node) ∧
    (t.clock.set = false ∧ t.clock.lineSeconds = 0 ∧ t.clock.phase = 0 ∧ t.clock.msDivider = 0 ∧
      t.clock.trimDescriptor = s.clock.trimDescriptor ∧
      t.clock.trim = (let d := s.clock.trimDescriptor.toInt; if -1000 ≤ d ∧ d ≤ 1000 then d else 0) ∧
      (t.clock.length : Int) = 10000000 - t.clock.trim) ∧
    t.fau = { state := .idle, jobs := [], tag := 0, channels := 15, serial := 0, accumulator := 0, intermediate := 0 } ∧
    t.matcher = { readiness := .starting, work := .none, frame := none } ∧
    t.slots = { matcherRequest := .none, sweeperRequest := .none, matcherReserved := 0, sweeperReserved := 0 } ∧
    (t.sweeper.state = .startPass ∧ t.sweeper.passKind = .powerUp ∧ t.sweeper.passBucket = 0 ∧ t.sweeper.passWay = 0 ∧
      t.sweeper.mode = .continuous ∧ t.sweeper.pause = 20 ∧ t.sweeper.pointer = 0 ∧ t.sweeper.round = 0 ∧
      t.sweeper.passCounter = 0 ∧ t.sweeper.passComplete = false) ∧
    t.holds = { fau := .none, matcher := .none, sweeper := .held 0 { now := 0, channels := 15 } } ∧
    (t.responder.inWork = none ∧ t.responder.restartPending = none ∧ t.responder.fault = {} ∧
      t.responder.counters = {} ∧ t.responder.discardedSettlements = 0) ∧
    (t.station.intake = [] ∧ t.station.passDown = [] ∧ t.station.readySlots = [] ∧ t.station.sending = none ∧
      t.station.verdicts = List.replicate 32 { state := .free, source := 0, sequence := 0, entries := [] } ∧
      t.station.intakeCondition = false ∧ t.station.forwardCondition = false ∧ t.station.turnVerdicts = true ∧
      t.station.farEndPause = s.station.farEndPause) ∧
    (t.office.intake = [] ∧ t.office.passUp = [] ∧ t.office.settlements = [] ∧ t.office.readyReplies = [] ∧
      t.office.replies = List.replicate 8 { state := .free } ∧ t.office.sending = none ∧
      t.office.intakeCondition = false ∧ t.office.forwardCondition = false ∧ t.office.turnSettlements = true ∧
      t.office.farEndPause = s.office.farEndPause) ∧
    (t.store.clear = none ∧ t.store.pointerBank = .A ∧ t.store.pointerOffset = 0) ∧
    (∀ b, (t.bank b).refs = 0 ∧ (t.bank b).activation = (s.bank b).activation ∧
      (t.bank b).checkCode = (s.bank b).checkCode ∧
      ((s.bank b).state = .checking → (t.bank b).state = .scheduled) ∧
      ((s.bank b).state = .retiring → (t.bank b).state = .staging) ∧
      ((s.bank b).state ≠ .checking → (s.bank b).state ≠ .retiring → (t.bank b).state = (s.bank b).state) ∧
      ((∀ c, s.store.clear = some c → c.bank ≠ b) →
        ((s.bank b).state ≠ .checking → t.words b = s.words b) ∧
        ((s.bank b).state = .checking → ∀ offset, ¬(1536 ≤ offset ∧ offset ≤ 1599) →
          wordAt (t.words b) offset = wordAt (s.words b) offset)) ∧
      ∀ c, s.store.clear = some c → c.bank = b → (s.bank b).state ≠ .checking → c.reached ≤ 255 →
        clearBroken c (s.words b) (t.words b))

/-- A restart at the reset line input: records, clock, bank states and times, load pointer, bucket count, node number
and settlement serial are kept, everything volatile is gone, the settlements that waited are counted as discarded, and
the restart start pass stands at bucket 0; words go as at a power-up (R39, R51, R57, R81, R109, R110, R136, R141, R156,
R161, R164 to R167, R178, R181, R183, R184). By the model's choice the far end's pauses are kept (log 11), the two
registers of the computation hold 0 (log 19), the Sweeper holds bucket 0 at once, with a reading that no rule uses (log
2), the free verdict slots and reply entries hold nothing (log 35), and how far a clear or check came is free (logs 13,
14). -/
def Obligations.RestartState : Prop :=
  ∀ s : State, ∃ t, exec .resetLineInput s = .next t ∧
    t.table = s.table ∧ t.bucketCount = s.bucketCount ∧ t.node = s.node ∧ t.clock = s.clock ∧
    t.fau = { state := .idle, jobs := [], tag := 0, channels := 15, serial := s.fau.serial, accumulator := 0
              intermediate := 0 } ∧
    t.matcher = { readiness := .starting, work := .none, frame := none } ∧
    t.slots = { matcherRequest := .none, sweeperRequest := .none, matcherReserved := 0, sweeperReserved := 0 } ∧
    (t.sweeper.state = .startPass ∧ t.sweeper.passKind = .restart ∧ t.sweeper.passBucket = 0 ∧ t.sweeper.passWay = 0 ∧
      t.sweeper.mode = .continuous ∧ t.sweeper.pause = 20 ∧ t.sweeper.pointer = 0 ∧ t.sweeper.round = 0 ∧
      t.sweeper.passCounter = 0 ∧ t.sweeper.passComplete = false) ∧
    t.holds = { fau := .none, matcher := .none, sweeper := .held 0 { now := 0, channels := 15 } } ∧
    (t.responder.inWork = none ∧ t.responder.restartPending = none ∧ t.responder.fault = {} ∧
      t.responder.counters = {} ∧ t.responder.discardedSettlements = s.office.settlements.length) ∧
    (t.station.intake = [] ∧ t.station.passDown = [] ∧ t.station.readySlots = [] ∧ t.station.sending = none ∧
      t.station.verdicts = List.replicate 32 { state := .free, source := 0, sequence := 0, entries := [] } ∧
      t.station.intakeCondition = false ∧ t.station.forwardCondition = false ∧ t.station.turnVerdicts = true ∧
      t.station.farEndPause = s.station.farEndPause) ∧
    (t.office.intake = [] ∧ t.office.passUp = [] ∧ t.office.settlements = [] ∧ t.office.readyReplies = [] ∧
      t.office.replies = List.replicate 8 { state := .free } ∧ t.office.sending = none ∧
      t.office.intakeCondition = false ∧ t.office.forwardCondition = false ∧ t.office.turnSettlements = true ∧
      t.office.farEndPause = s.office.farEndPause) ∧
    (t.store.clear = none ∧ t.store.pointerBank = s.store.pointerBank ∧
      t.store.pointerOffset = s.store.pointerOffset) ∧
    (∀ b, (t.bank b).refs = 0 ∧ (t.bank b).activation = (s.bank b).activation ∧
      (t.bank b).checkCode = (s.bank b).checkCode ∧
      ((s.bank b).state = .checking → (t.bank b).state = .scheduled) ∧
      ((s.bank b).state ≠ .checking → (t.bank b).state = (s.bank b).state) ∧
      ((∀ c, s.store.clear = some c → c.bank ≠ b) →
        ((s.bank b).state ≠ .checking → t.words b = s.words b) ∧
        ((s.bank b).state = .checking → ∀ offset, ¬(1536 ≤ offset ∧ offset ≤ 1599) →
          wordAt (t.words b) offset = wordAt (s.words b) offset)) ∧
      ∀ c, s.store.clear = some c → c.bank = b → (s.bank b).state ≠ .checking → c.reached ≤ 255 →
        clearBroken c (s.words b) (t.words b))

/-! ### The Line Clock -/

/-- A second boundary: line seconds step and saturate, the phase restarts and the new second's length comes from the
trim. A clock that is SET hands the time trigger: outside a start pass a SCHEDULED bank whose time has come is
CHECKING, and a WAITING Matcher with a bank ACTIVE is READY. Nothing else changes (R128 to R130, R132, R149, R82). -/
def Obligations.SecondBoundaryStepsTheClock : Prop :=
  ∀ s : State, ∃ t, exec .secondBoundary s = .next t ∧
    t = { s with clock := t.clock, store := t.store, matcher := t.matcher } ∧
    t.clock = { s.clock with
      lineSeconds := if s.clock.lineSeconds = 4294967295 then 4294967295 else s.clock.lineSeconds + 1
      phase := 0, length := (10000000 - s.clock.trim).toNat } ∧
    t.store.clear = s.store.clear ∧ t.store.pointerBank = s.store.pointerBank ∧
    t.store.pointerOffset = s.store.pointerOffset ∧
    (∀ b a, s.clock.set = true → s.sweeper.state ≠ .startPass → (s.bank b).state = .scheduled →
      (s.bank b).activation = some a → a.toNat ≤ t.clock.lineSeconds.toNat →
      t.bank b = { s.bank b with state := .checking, derivedDone := 0 }) ∧
    (∀ b, (s.clock.set = false ∨ s.sweeper.state = .startPass ∨ (s.bank b).state ≠ .scheduled ∨
      (s.bank b).activation = none ∨ ∃ a, (s.bank b).activation = some a ∧ t.clock.lineSeconds.toNat < a.toNat) →
      t.bank b = s.bank b) ∧
    (s.clock.set = true → s.matcher.readiness = .waiting → s.activeBank.isSome = true →
      t.matcher = { s.matcher with readiness := .ready }) ∧
    (s.clock.set = false ∨ s.matcher.readiness ≠ .waiting ∨ s.activeBank = none → t.matcher = s.matcher)

/-- A millisecond tick restarts the divider; the Sweeper counts it in PAUSE and disregards it in every other state. Once
the count has come to the pause the pause runs out: a burst begins at the pointer with a request for its bucket. Before
that, and outside PAUSE, the pause does not run out (R115, R131; the split in two commands is the model's choice, log 6,
and so is what the request meets where a read of the bucket is still to be made, log 30). -/
def Obligations.PauseCountsTicksAndRunsOut : Prop :=
  (∀ s : State, exec .millisecondTick s = .next { s with
    clock := { s.clock with msDivider := 0 }
    sweeper :=
      if s.sweeper.state = .pause ∧ s.sweeper.ticks < s.sweeper.pause.toNat then
        { s.sweeper with ticks := s.sweeper.ticks + 1 }
      else s.sweeper }) ∧
  (∀ s : State, s.sweeper.state = .pause → s.sweeper.pause.toNat ≤ s.sweeper.ticks →
    exec .pauseRunsOut s = .next { s with
      sweeper := { s.sweeper with state := .burst, burstDone := 0 }
      holds := { s.holds with sweeper := s.holdGiven s.sweeper.pointer } }) ∧
  ∀ s : State, s.sweeper.state ≠ .pause ∨ s.sweeper.ticks < s.sweeper.pause.toNat → exec .pauseRunsOut s = .next s

/-! ### The ports -/

/-- A well-formed frame is routed by its destination node and kind: a tap frame to the engine joins the station intake
queue, a request to the engine the office intake queue, a frame to another node the other port's pass-through queue. A
frame that meets a full queue, or comes to the engine with another kind, is discarded and counted (R159, R160, R162),
and the pause conditions rise at 28, 14 and 12 frames (R161). A frame that is not well formed is discarded and
counted, with a FRAME_CHECK capture of port and kind octet and the octet in the source position (R158). A frame
discarded at its 1034th octet is treated the same, and its port then waits for the next frame boundary (R157; the
count and capture of that frame are the model's reading, log 8). -/
def Obligations.FramesAreRoutedOrDiscarded : Prop :=
  (∀ (s : State) (f : Frame), frameWellFormed f = true → ∃ t u,
     exec (.frameReceived .station f) s = .next t ∧ exec (.frameReceived .office f) s = .next u ∧
     (frameDest f = s.node → frameKind f = 1 → s.station.intake.length < 32 →
       t = { s with station := { s.station with
         awaitsBoundary := false, intake := s.station.intake ++ [f]
         intakeCondition := if s.station.intake.length + 1 = 28 then true else s.station.intakeCondition } }) ∧
     (frameDest f ≠ s.node → s.office.passUp.length < 16 →
       t = { s with
         station := { s.station with
           awaitsBoundary := false
           forwardCondition := if s.office.passUp.length + 1 = 12 then true else s.station.forwardCondition }
         office := { s.office with passUp := s.office.passUp ++ [f] } }) ∧
     ((frameDest f = s.node ∧ (frameKind f ≠ 1 ∨ 32 ≤ s.station.intake.length)) ∨
         (frameDest f ≠ s.node ∧ 16 ≤ s.office.passUp.length) →
       t = { s with
         station := { s.station with awaitsBoundary := false }
         responder := { s.responder with counters := { s.responder.counters with
           framesDiscarded := s.responder.counters.framesDiscarded + 1 } } }) ∧
     (frameDest f = s.node → frameKind f = 4 → s.office.intake.length < 16 →
       u = { s with office := { s.office with
         awaitsBoundary := false, intake := s.office.intake ++ [f]
         intakeCondition := if s.office.intake.length + 1 = 14 then true else s.office.intakeCondition } }) ∧
     (frameDest f ≠ s.node → s.station.passDown.length < 16 →
       u = { s with
         office := { s.office with
           awaitsBoundary := false
           forwardCondition := if s.station.passDown.length + 1 = 12 then true else s.office.forwardCondition }
         station := { s.station with passDown := s.station.passDown ++ [f] } }) ∧
     ((frameDest f = s.node ∧ (frameKind f ≠ 4 ∨ 16 ≤ s.office.intake.length)) ∨
         (frameDest f ≠ s.node ∧ 16 ≤ s.station.passDown.length) →
       u = { s with
         office := { s.office with awaitsBoundary := false }
         responder := { s.responder with counters := { s.responder.counters with
           framesDiscarded := s.responder.counters.framesDiscarded + 1 } } })) ∧
  ∀ (s : State) (port : Port) (f : Frame) (kind source : Octet),
    let discarded := fun (k o : Octet) => { s.responder with
      counters := { s.responder.counters with framesDiscarded := s.responder.counters.framesDiscarded + 1 }
      fault := s.responder.fault.after .frameCheck s.clock.lineSeconds o (match port with | .station => 0 | .office => 1)
        (k.setWidth 16) }
    let waits := fun (v : Bool) => match port with
      | .station => { s with station := { s.station with awaitsBoundary := v } }
      | .office => { s with office := { s.office with awaitsBoundary := v } }
    (frameWellFormed f = false → exec (.frameReceived port f) s =
      .next { waits false with responder := discarded (octetAt f 0) (octetAt f 2) }) ∧
    exec (.frameOverlengthDiscard port kind source) s = .next { waits true with responder := discarded kind source }

/-- The far end's pause is the one thing an assertion changes, so a frame being sent goes on. Its release lets the port
choose and begin a frame, as FRAME_BEGIN does; with a pause or a frame being sent, none begins (R163). At the end of a
transmission the place of the frame sent is free (verdict slot, settlement, reply entry, queue place) and the port
chooses again as FRAME_BEGIN does; at the end of the RESTART reply the restart of the reset line input is taken instead
(R162 to R164, R166, R182). That a free slot or entry holds nothing is the model's choice (log 35). -/
def Obligations.PausesAndEndsLetThePortsChoose : Prop :=
  (∀ s : State,
     exec (.farEndPauseAsserted .station) s = .next { s with station := { s.station with farEndPause := true } } ∧
     exec (.farEndPauseAsserted .office) s = .next { s with office := { s.office with farEndPause := true } } ∧
     (∃ t, exec (.farEndPauseReleased .station) s = .next t ∧ t.station.farEndPause = false ∧
       exec (.frameBegin .station) { s with station := { s.station with farEndPause := false } } = .next t) ∧
     (∃ t, exec (.farEndPauseReleased .office) s = .next t ∧ t.office.farEndPause = false ∧
       exec (.frameBegin .office) { s with office := { s.office with farEndPause := false } } = .next t) ∧
     (s.station.farEndPause = true ∨ s.station.sending ≠ none → exec (.frameBegin .station) s = .next s) ∧
     (s.office.farEndPause = true ∨ s.office.sending ≠ none → exec (.frameBegin .office) s = .next s)) ∧
  ∀ s : State,
    (∀ i o, s.station.sending = some (.verdict i o) →
      ∃ t, exec (.frameTransmissionEnd .station) s = .next t ∧ .next t = exec (.frameBegin .station) { s with station :=
        { s.station with sending := none, verdicts := s.station.verdicts.set i { state := .free } } }) ∧
    (∀ o, s.station.sending = some (.passThrough o) →
      ∃ t, exec (.frameTransmissionEnd .station) s = .next t ∧ .next t = exec (.frameBegin .station) { s with
        station := { s.station with sending := none, passDown := s.station.passDown.tail }
        office := { s.office with forwardCondition :=
          if s.station.passDown.length - 1 = 8 then false else s.office.forwardCondition } }) ∧
    (∀ o, s.office.sending = some (.settlement o) →
      ∃ t, exec (.frameTransmissionEnd .office) s = .next t ∧ .next t = exec (.frameBegin .office) { s with office :=
        { s.office with sending := none, settlements := s.office.settlements.tail } }) ∧
    (∀ o, s.office.sending = some (.passThrough o) →
      ∃ t, exec (.frameTransmissionEnd .office) s = .next t ∧ .next t = exec (.frameBegin .office) { s with
        office := { s.office with sending := none, passUp := s.office.passUp.tail }
        station := { s.station with forwardCondition :=
          if s.office.passUp.length - 1 = 8 then false else s.station.forwardCondition } }) ∧
    (∀ i o, s.office.sending = some (.reply i o) → s.responder.restartPending ≠ some i →
      ∃ t, exec (.frameTransmissionEnd .office) s = .next t ∧ .next t = exec (.frameBegin .office) { s with office :=
        { s.office with sending := none, replies := s.office.replies.set i { state := .free } } }) ∧
    (∀ i o, s.office.sending = some (.reply i o) → s.responder.restartPending = some i →
      ∃ t, exec (.frameTransmissionEnd .office) s = .next t ∧ .next t = exec .resetLineInput { s with office :=
        { s.office with sending := none, replies := s.office.replies.set i { state := .free } } })

/-- The Station Port begins its oldest ready verdict slot or its oldest pass-through frame: the one kind that is ready,
or, where both are, the one its turn names; the turn passes to the other kind. The Office Port begins the reply that
became ready earliest whenever one is ready, and leaves its turn; else its oldest settlement or pass-through frame by
its turn (R163 to R166; that the turn passes also where one kind alone was ready is the model's reading, log 7). -/
def Obligations.PortsBeginFramesByTurn : Prop :=
  (∀ s : State, s.station.farEndPause = false → s.station.sending = none →
    (∀ i rest v, s.station.readySlots = i :: rest → s.station.verdicts[i]? = some v →
      s.station.passDown = [] ∨ s.station.turnVerdicts = true →
      exec (.frameBegin .station) s = .next { s with station := { s.station with
        verdicts := s.station.verdicts.set i { v with state := .sending }, readySlots := rest, turnVerdicts := false
        sending := some (.verdict i (buildFrame 2 v.source s.node v.sequence (verdictPayload v))) } }) ∧
    (∀ f rest, s.station.passDown = f :: rest → s.station.readySlots = [] ∨ s.station.turnVerdicts = false →
      exec (.frameBegin .station) s = .next { s with station :=
        { s.station with turnVerdicts := true, sending := some (.passThrough f) } }) ∧
    (s.station.readySlots = [] → s.station.passDown = [] → exec (.frameBegin .station) s = .next s)) ∧
  ∀ s : State, s.office.farEndPause = false → s.office.sending = none →
    (∀ i rest r, s.office.readyReplies = i :: rest → s.office.replies[i]? = some r →
      exec (.frameBegin .office) s = .next { s with office := { s.office with
        replies := s.office.replies.set i { r with state := .sending }, readyReplies := rest
        sending := some (.reply i (buildFrame 5 r.dest s.node r.sequence (replyPayload r))) } }) ∧
    (∀ x rest, s.office.readyReplies = [] → s.office.settlements = x :: rest →
      s.office.passUp = [] ∨ s.office.turnSettlements = true →
      exec (.frameBegin .office) s = .next { s with office := { s.office with
        turnSettlements := false
        sending := some (.settlement (buildFrame 3 0 s.node (x.serial.setWidth 16) (settlementPayload x))) } }) ∧
    (∀ f rest, s.office.readyReplies = [] → s.office.passUp = f :: rest →
      s.office.settlements = [] ∨ s.office.turnSettlements = false →
      exec (.frameBegin .office) s = .next { s with office :=
        { s.office with turnSettlements := true, sending := some (.passThrough f) } }) ∧
    (s.office.readyReplies = [] → s.office.settlements = [] → s.office.passUp = [] →
      exec (.frameBegin .office) s = .next s)

/-- A frame the engine builds is well formed, and every field reads back as it was put in (R157, R158, R168). The fields
of a VERDICT and of a SETTLEMENT payload lie at the octets of Tables 9-3 and 9-4, with the codes of those tables. -/
def Obligations.BuiltFramesReadBack : Prop :=
  (∀ (kind dest source : Octet) (sequence : BitVec 16) (payload : List Octet), payload.length ≤ 1024 →
    let f := buildFrame kind dest source sequence payload
    frameWellFormed f = true ∧ frameKind f = kind ∧ frameDest f = dest ∧ frameSource f = source ∧
      frameSequence f = sequence ∧ framePayload f = payload) ∧
  (∀ v : VerdictSlot, verdictFields v (verdictPayload v)) ∧
  (∀ x : Settlement, settlementFields x (settlementPayload x)) ∧
  ([.entered, .exited, .cancelled, .corrected, .unmatched, .duplicate, .denied, .unknownStation, .stationClosed,
    .notReady, .malformed].map VerdictKind.code = [1, 2, 3, 4, 5, 6, 7, 8, 9, 10, 11]) ∧
  ∀ (e x : Leg) (n : BitVec 16), [Journey.complete e x, .cancelled e x, .incomplete e, .unmatched x, .correction e x n,
    .expired e, .displaced e].map Journey.code = [1, 2, 3, 4, 5, 6, 7]

/-! ### The Tap Matcher -/

/-- The oldest tap frame is taken into the lowest-numbered free verdict slot, with its source node and sequence: one
waiting entry for each record, and the frame in work at its first record; or, where the frame is malformed as a whole,
a slot with no entry that is ready at once, and one tap refused. Nothing else changes (R84, R85, R160, R161; which free
slot is the model's choice, log 15). -/
def Obligations.TapFrameClaimsAVerdictSlot : Prop :=
  ∀ (s : State) (f : Frame) (rest : List Frame) (slot : Nat),
    s.matcher.work = .none → s.matcher.frame = none → s.station.intake = f :: rest →
    freePlace VerdictSlot.state s.station.verdicts = some slot →
    let p := framePayload f
    let taken := { s.station with
      intake := rest
      intakeCondition := if rest.length = 20 then false else s.station.intakeCondition }
    (tapFrameMalformed p = false → exec .tapFrameTaken s = .next { s with
      station := { taken with
        verdicts := s.station.verdicts.set slot
          { state := .taken, source := frameSource f, sequence := frameSequence f
            entries := List.replicate (octetAt p 0).toNat ⟨false, none, {}, 0, 0⟩ } }
      matcher := { s.matcher with
        frame := some { slot := slot, source := frameSource f, remaining := tapRecords p, position := 0 } } }) ∧
    (tapFrameMalformed p = true → exec .tapFrameTaken s = .next { s with
      station := { taken with
        verdicts := s.station.verdicts.set slot
          { state := .ready, source := frameSource f, sequence := frameSequence f, entries := [] }
        readySlots := s.station.readySlots ++ [slot] }
      responder := { s.responder with counters := { s.responder.counters with
        tapsRefused := s.responder.counters.tapsRefused + 1 } } })

/-- A record begun with the Matcher not READY is NOT_READY; malformed, MALFORMED; at a station not in force of the
ACTIVE bank, UNKNOWN_STATION with a capture; on its deny list, DENIED: in that order, at once, with charge 0 and cap
room 65535, and counted as taken and refused. Its slot is ready where that completes it, and no slot is kept reserved:
with none held and no free one waited for, the slots stay as they are. No token record, job, bank or hold changes (R22,
R83, R84, R87 to R89, R105, R106, R164). A token is denied exactly where it equals an entry in force of the list
(R16). -/
def Obligations.RefusedRecordsAreAnsweredAtOnce : Prop :=
  (∀ (s : State) (f : FrameInWork) (r : TapRecord) (rest : List TapRecord),
    s.matcher.work = .none → s.matcher.frame = some f → f.remaining = r :: rest → s.assistWaits = false →
    (s.verdictAt f.slot f.position).isSome = true → s.slots.matcherRequest = .none →
    let refused := fun (kind : VerdictKind) => ∃ t, exec .tapRecord s = .next t ∧
      t = { s with
        station := s.station.withEntry f.slot f.position ⟨true, some kind, {}, 0, 65535⟩
        slots := s.matcherReturned s.fau.jobs.length
        matcher := { s.matcher with frame :=
          if rest = [] then none else some { f with remaining := rest, position := f.position + 1 } }
        responder := { s.responder with
          fault :=
            if kind = .unknownStation then
              s.responder.fault.after .unknownStation s.clock.lineSeconds f.source 0 (r.station.setWidth 16)
            else s.responder.fault
          counters := { s.responder.counters with
            tapsTaken := s.responder.counters.tapsTaken + 1, tapsRefused := s.responder.counters.tapsRefused + 1 } } } ∧
      t.verdictAt f.slot f.position = some ⟨true, some kind, {}, 0, 65535⟩ ∧
      (s.slots.matcherReserved = 0 → s.slots.sweeperRequest ≠ .waiting ∨ s.freeSlots = 0 → t.slots = s.slots)
    (s.matcher.readiness ≠ .ready → refused .notReady) ∧
    ∀ bank, s.matcher.readiness = .ready → s.activeBank = some bank →
      (tapMalformed r = true → refused .malformed) ∧
      (tapMalformed r = false → stationCount (s.words bank) ≤ r.station.toNat → refused .unknownStation) ∧
      (tapMalformed r = false → r.station.toNat < stationCount (s.words bank) →
        denied (s.words bank) r.token = true → refused .denied)) ∧
  ∀ (m : WordMem) (token : Token),
    denied m token = true ↔ ∃ i < denyCount m, wordAt m (8192 + 2 * i) ++ wordAt m (8193 + 2 * i) = token

/-- A record that passes those tests takes the ACTIVE bank as its judging bank and the tap's time, or the clock's and
the mark clamped where the tap lies ahead of it, and is late where it is older than the late limit; it asks for a
reservation, granted at once where a job slot is free, a Sweeper that waits being granted another one; the Matcher is in
WAIT_RESERVATION. Nothing else changes (R22, R88, R90, R91; that the grant is taken up in its own command is the model's
choice, log 3). -/
def Obligations.AdmittedRecordsAskForASlot : Prop :=
  ∀ (s : State) (f : FrameInWork) (r : TapRecord) (rest : List TapRecord) (bank : BankId),
    s.matcher.work = .none → s.matcher.frame = some f → f.remaining = r :: rest → s.assistWaits = false →
    s.matcher.readiness = .ready → s.activeBank = some bank → tapMalformed r = false →
    r.station.toNat < stationCount (s.words bank) → denied (s.words bank) r.token = false →
    s.slots.matcherReserved = 0 →
    ∃ t h, exec .tapRecord s = .next t ∧
      t = { s with
        matcher := { s.matcher with
          work := .waitReservation h, frame := some { f with remaining := rest, position := f.position + 1 } }
        slots := s.matcherAsked } ∧
      h.origin = .tap f.slot f.position f.source ∧ h.tap = r ∧ h.judging = bank ∧ h.lapsed = false ∧
      (s.clock.lineSeconds.toNat < r.time.toNat → h.time = s.clock.lineSeconds ∧ h.clamped = true ∧ h.late = false) ∧
      (r.time.toNat ≤ s.clock.lineSeconds.toNat → h.time = r.time ∧ h.clamped = false ∧
        (h.late = true ↔ lateLimit (s.words bank) < s.clock.lineSeconds.toNat - r.time.toNat))

/-- A granted reservation, the first or the second, takes the Matcher to WAIT_HOLD with a request for the bucket of its
token: granted at once where the bucket is free and nothing waits for it, else waiting; where a READ TOKEN's read of it
is still to be made, it waits by the model's choice (log 30). The token's bucket is the fold of its quarters mod the
bucket count (R24, R66, R73, R91). A slot granted to the Sweeper is held reserved and the bucket is requested again: in
WAIT_SLOT the one at the pointer, back in BURST (R119); in a start pass the one the pass has reached (R124). Nothing
else changes. -/
def Obligations.GrantedSlotsSeekTheBucket : Prop :=
  (∀ (s : State) (h : Handling), s.slots.matcherRequest = .granted →
    let t := h.tap.token
    let b := ((t >>> 48) ^^^ (t >>> 32) ^^^ (t >>> 16) ^^^ t).toNat % 65536 % s.bucketCount
    let after := { s with
      slots := { s.slots with matcherRequest := .none }
      matcher := { s.matcher with work := .waitHold h }
      holds := { s.holds with matcher := s.holdGiven b } }
    (s.matcher.work = .waitReservation h → exec .reservationGranted s = .next after) ∧
    (s.matcher.work = .waitSecond h → exec .secondReservationGranted s = .next after)) ∧
  ∀ s : State, s.slots.sweeperRequest = .granted →
    (s.sweeper.state = .waitSlot → exec .sweeperSlotGranted s = .next { s with
      sweeper := { s.sweeper with state := .burst }
      slots := { s.slots with sweeperRequest := .none }
      holds := { s.holds with sweeper := s.holdGiven s.sweeper.pointer } }) ∧
    (s.sweeper.state = .startPass → exec .startPassSlotGranted s = .next { s with
      slots := { s.slots with sweeperRequest := .none }
      holds := { s.holds with sweeper := s.holdGiven s.sweeper.passBucket } })

/-- A record with a closing part makes the Matcher release the bucket unchanged and wait for that part's removal: no
record, job, bank, verdict or counter changes (R92, R76). A tap at the station and gate of the last tap, less than the
debounce window of a judging bank in use away in either direction, is DUPLICATE: last activity alone is set, to hold
now, and duplicates and taps taken are counted. The record ends: its slot is ready where that completes it, its frame
leaves work with its last record, the bucket goes to the block that waits for it and the slot reserved is returned (R22,
R73, R74, R84, R94, R105, R106, R164). -/
def Obligations.ClosingPartsWaitAndDuplicatesTouchLittle : Prop :=
  (∀ (s : State) (h : Handling) (b w : Nat) (read : Reading) (r : TokenRecord), s.matcher.work = .waitHold h →
     s.holds.matcher = .held b read → s.lookup b h.tap.token = some (w, r) → r.closing.isSome = true →
     s.putsOff b (.waitToken h)) ∧
  ∀ (s : State) (h : Handling) (b slot position : Nat) (read : Reading) (source : Octet) (w : Nat) (r : TokenRecord)
    (l : Leg), s.inTapHold b read h slot position source → s.judgingInUse h →
    s.lookup b h.tap.token = some (w, r) → r.closing = none →
    r.lastTap = some l → l.station = h.tap.station → l.gate = h.tap.gate →
    (h.time.toNat - l.time.toNat) + (l.time.toNat - h.time.toNat) < debounceWindow (s.words h.judging) →
    ∃ t, exec .tapHoldGranted s = .next t ∧
      t = { s with
        table := t.table, station := t.station, holds := t.holds, slots := t.slots, matcher := t.matcher
        responder := { s.responder with counters := { s.responder.counters with
          tapsTaken := s.responder.counters.tapsTaken + 1, duplicates := s.responder.counters.duplicates + 1 } } } ∧
      t.way b w = some { r with lastActivity := read.now } ∧ s.sameWaysBut t b w ∧
      s.tapEnds t b slot position ⟨true, some .duplicate, { clamped := h.clamped, late := h.late }, 0, 65535⟩

/-- An accepted entry makes an open part from the tap under the judging bank, whose count rises by 1, sets last tap and
last activity and is ENTERED; an open part found becomes a closing part of kind INCOMPLETE whose job is submitted with
the same tag, and the verdict is PREVIOUS_CLOSED; with none found no job is made (R93, R95, R97, R98, R27, R106). An
entry at a station that a judging bank in use closes for entry is STATION_CLOSED: last tap and last activity alone are
set (R96). That a bank which was replaced and is ACTIVE again at the claim is not still ACTIVE is the model's reading
(log 31). -/
def Obligations.EntryOpensAJourney : Prop :=
  ∀ (s : State) (h : Handling) (b slot position : Nat) (read : Reading) (source : Octet) (w : Nat) (r : TokenRecord),
    s.inTapHold b read h slot position source → s.tapFinds b h w r →
    h.tap.direction = 1 ∨ (h.tap.direction = 3 ∧ r.openPart = none) →
    let touched := { r with
      lastTap := some ⟨h.tap.station, h.tap.gate, h.time⟩, lastActivity := read.now }
    let opened : OpenPart :=
      { entry := ⟨h.tap.station, h.tap.gate, h.time⟩, cls := h.tap.cls, bank := h.judging
        timeClamped := h.clamped, late := h.late }
    let closed := fun (o : OpenPart) => ({ journey := .incomplete o.entry, tag := s.fau.tag, bank := o.bank
                                           cls := o.cls, ref := .none
                                           flags := { entryClamped := o.timeClamped, late := o.late } } : ClosingPart)
    (openForEntry (s.words h.judging) h.tap.station.toNat = true → s.judgingActive h →
      ∃ t, exec .tapHoldGranted s = .next t ∧
        t = { s with
          table := t.table, store := t.store, station := t.station, holds := t.holds, slots := t.slots
          matcher := t.matcher, fau := t.fau
          responder := { s.responder with counters := { s.responder.counters with
            tapsTaken := s.responder.counters.tapsTaken + 1 } } } ∧
        (r.openPart = none → t.way b w = some { touched with openPart := some opened } ∧ t.fau = s.fau) ∧
        (∀ o, r.openPart = some o →
          t.way b w = some { touched with openPart := some opened, closing := some (closed o) } ∧
          t.fau = { s.fau with
            tag := s.fau.tag + 1
            jobs := s.fau.jobs ++ [{ journey := .incomplete o.entry, tag := s.fau.tag, token := r.token
                                     bank := o.bank, cls := o.cls, ref := .none, flags := (closed o).flags }] }) ∧
        s.sameWaysBut t b w ∧
        t.bank h.judging = { s.bank h.judging with refs := (s.bank h.judging).refs + 1 } ∧
        t.bank h.judging.other = s.bank h.judging.other ∧
        s.tapEnds t b slot position ⟨true, some .entered,
          { clamped := h.clamped, late := h.late, previousClosed := r.openPart.isSome }, 0, 65535⟩) ∧
    (s.judgingInUse h → openForEntry (s.words h.judging) h.tap.station.toNat = false →
      ∃ t, exec .tapHoldGranted s = .next t ∧
        t = { s with
          table := t.table, station := t.station, holds := t.holds, slots := t.slots, matcher := t.matcher
          responder := { s.responder with counters := { s.responder.counters with
            tapsTaken := s.responder.counters.tapsTaken + 1, tapsRefused := s.responder.counters.tapsRefused + 1 } } } ∧
        t.way b w = some touched ∧ s.sameWaysBut t b w ∧
        s.tapEnds t b slot position
          ⟨true, some .stationClosed, { clamped := h.clamped, late := h.late }, 0, 65535⟩)

/-- An exit with an open part turns it into a closing part whose job is submitted with the same tag; the exit time is
raised to the entry time where it is below it. At the entry station within the cancel window it is CANCELLED at once,
with charge 0 and no reference; else COMPLETE, and the verdict EXITED waits for the write-back. The part's bank, class
and entry are kept and no bank count changes (R99 to R101, R27, R105, R106). -/
def Obligations.ExitClosesTheJourney : Prop :=
  ∀ (s : State) (h : Handling) (b slot position : Nat) (read : Reading) (source : Octet) (w : Nat) (r : TokenRecord)
    (o : OpenPart), s.inTapHold b read h slot position source → s.tapFinds b h w r → r.openPart = some o →
    h.tap.direction = 2 ∨ h.tap.direction = 3 →
    let raised := decide (h.time.toNat < o.entry.time.toNat)
    let exit : Leg := ⟨h.tap.station, h.tap.gate, if h.time.toNat < o.entry.time.toNat then o.entry.time else h.time⟩
    let cancelled := h.tap.station = o.entry.station ∧
      exit.time.toNat - o.entry.time.toNat ≤ cancelWindow (s.words o.bank)
    let part : ClosingPart :=
      { journey := if cancelled then .cancelled o.entry exit else .complete o.entry exit
        tag := s.fau.tag, bank := o.bank, cls := o.cls
        ref := if cancelled then .none else .verdict slot position
        flags := { entryClamped := o.timeClamped, exitClamped := h.clamped, exitBeforeEntry := raised
                   late := o.late || h.late } }
    ∃ t e, exec .tapHoldGranted s = .next t ∧
      t = { s with
        table := t.table, station := t.station, holds := t.holds, slots := t.slots, matcher := t.matcher
        fau := { s.fau with
          tag := s.fau.tag + 1
          jobs := s.fau.jobs ++ [{ journey := part.journey, tag := part.tag, token := r.token, bank := part.bank,
                                   cls := part.cls, ref := part.ref, flags := part.flags }] }
        responder := { s.responder with counters := { s.responder.counters with
          tapsTaken := s.responder.counters.tapsTaken + 1 } } } ∧
      t.way b w = some { r with
        lastTap := some ⟨h.tap.station, h.tap.gate, h.time⟩, lastActivity := read.now
        openPart := none, closing := some part } ∧
      s.sameWaysBut t b w ∧
      s.tapEnds t b slot position e ∧
      e.flags = { clamped := h.clamped, late := h.late, exitBeforeEntry := raised } ∧
      (cancelled → e.kind = some .cancelled ∧ e.complete = true ∧ e.charge = 0 ∧ e.capRoom = 65535) ∧
      (¬cancelled → e.kind = some .exited ∧ e.complete = false)

/-- An explicit exit by a token whose record has no open part is a correction where its recent-expiry part is of the
current service day and within the correction window of its bank: the part becomes a closing part of kind CORRECTION
with the charged amount as old charge. Else it is unmatched: a closing part of kind UNMATCHED under the judging bank,
whose count rises by 1, joins the record. Either way the job is submitted with the same tag and the verdict waits (R93,
R102 to R104, R27, R106; which bank is still ACTIVE at the claim by log 31). -/
def Obligations.ExitWithoutAJourneyCorrectsOrIsUnmatched : Prop :=
  ∀ (s : State) (h : Handling) (b slot position : Nat) (read : Reading) (source : Octet) (w : Nat) (r : TokenRecord),
    s.inTapHold b read h slot position source → s.tapFinds b h w r → r.openPart = none → h.tap.direction = 2 →
    let now := read.now
    let usable := fun (p : RecentPart) => serviceDay p.expiryTime = serviceDay now ∧
      now.toNat - p.expiryTime.toNat ≤ correctionWindow (s.words p.bank)
    let touched := { r with lastTap := some ⟨h.tap.station, h.tap.gate, h.time⟩, lastActivity := now }
    let closes := fun (t : State) (left : Option RecentPart) (part : ClosingPart) (kind : VerdictKind)
        (flags : VerdictFlags) =>
      exec .tapHoldGranted s = .next t ∧
      t = { s with
        table := t.table, store := t.store, station := t.station, holds := t.holds, slots := t.slots
        matcher := t.matcher
        fau := { s.fau with
          tag := s.fau.tag + 1
          jobs := s.fau.jobs ++ [{ journey := part.journey, tag := part.tag, token := r.token, bank := part.bank,
                                   cls := part.cls, ref := part.ref, flags := part.flags }] }
        responder := { s.responder with counters := { s.responder.counters with
          tapsTaken := s.responder.counters.tapsTaken + 1 } } } ∧
      t.way b w = some { touched with closing := some part, recent := left } ∧ s.sameWaysBut t b w ∧
      ∃ e, s.tapEnds t b slot position e ∧ e.kind = some kind ∧ e.flags = flags ∧ e.complete = false
    (∀ p, r.recent = some p → usable p →
      let raised := decide (h.time.toNat < p.entry.time.toNat)
      ∃ t, t.store = s.store ∧ closes t none
        { journey := .correction p.entry ⟨h.tap.station, h.tap.gate,
            if h.time.toNat < p.entry.time.toNat then p.entry.time else h.time⟩ p.charged
          tag := s.fau.tag, bank := p.bank, cls := p.cls, ref := .verdict slot position
          flags := { exitClamped := h.clamped, late := h.late, exitBeforeEntry := raised } }
        .corrected { clamped := h.clamped, late := h.late, exitBeforeEntry := raised }) ∧
    ((∀ p, r.recent = some p → ¬usable p) → s.judgingActive h →
      ∃ t, t.bank h.judging = { s.bank h.judging with refs := (s.bank h.judging).refs + 1 } ∧
        t.bank h.judging.other = s.bank h.judging.other ∧ closes t r.recent
        { journey := .unmatched ⟨h.tap.station, h.tap.gate, h.time⟩
          tag := s.fau.tag, bank := h.judging, cls := h.tap.cls, ref := .verdict slot position
          flags := { exitClamped := h.clamped, late := h.late } }
        .unmatched { clamped := h.clamped, late := h.late })

/-- An ASSIST EXIT handed over is answered NOT_READY where the Matcher is not READY, BAD_ARGUMENT for a token of 0 or a
station not in force, and else asks for a reservation as an exit at tap now. In the hold a record with an open part gets
a closing part of kind COMPLETE with ASSISTED and the reply reference, without a cancellation test, and its last tap
stays; without one the answer is NOT_FOUND and no record changes. With either the request leaves work, the bucket goes
to the block that waits for it and the slot kept is returned (R22, R73, R74, R107, R108, R172, R176). -/
def Obligations.AssistExitIsHandledByTheMatcher : Prop :=
  (∀ (s : State) (token : Token) (station gate : Octet) (entry : Nat) (r : ReplyEntry),
    s.matcher.work = .none → s.responder.inWork = some (.assistHanded token station gate entry) →
    s.office.replies[entry]? = some r →
    let answered := fun (status : Status) => { s with
      office := { s.office with
        replies := s.office.replies.set entry { r with state := .ready, status := status, data := [] }
        readyReplies := s.office.readyReplies ++ [entry] }
      responder := { s.responder with inWork := none } }
    (s.matcher.readiness ≠ .ready → exec .assistExitTaken s = .next (answered .notReady)) ∧
    (∀ bank, s.matcher.readiness = .ready → s.activeBank = some bank →
      token = 0 ∨ stationCount (s.words bank) ≤ station.toNat →
      exec .assistExitTaken s = .next (answered .badArgument)) ∧
    (∀ bank, s.matcher.readiness = .ready → s.activeBank = some bank → token ≠ 0 →
      station.toNat < stationCount (s.words bank) → ∃ t h, exec .assistExitTaken s = .next t ∧
        t = { s with
          matcher := { s.matcher with work := .waitReservation h }, slots := s.matcherAsked
          responder := { s.responder with inWork := some (.assistTaken entry) } } ∧
        h.origin = .assist entry ∧ h.judging = bank ∧ h.lapsed = false ∧ h.tap.token = token ∧
        h.tap.station = station ∧ h.tap.gate = gate ∧ h.time = s.clock.lineSeconds ∧ h.clamped = false ∧
        h.late = false)) ∧
  ∀ (s : State) (h : Handling) (b entry : Nat) (read : Reading) (e : ReplyEntry), s.matcher.work = .waitHold h →
    s.holds.matcher = .held b read → h.origin = .assist entry → s.office.replies[entry]? = some e →
    s.slots.matcherRequest = .none →
    ((∀ w r, s.lookup b h.tap.token = some (w, r) → r.closing = none ∧ r.openPart = none) →
      exec .tapHoldGranted s = .next { s with
          holds := s.matcherReleased b, slots := s.matcherReturned s.fau.jobs.length
          matcher := { s.matcher with work := .none }
          office := { s.office with
            replies := s.office.replies.set entry { e with state := .ready, status := .notFound, data := [] }
            readyReplies := s.office.readyReplies ++ [entry] }
          responder := { s.responder with inWork := none } }) ∧
    ∀ w r o, s.lookup b h.tap.token = some (w, r) → r.closing = none → r.openPart = some o →
      let exit : Leg :=
        ⟨h.tap.station, h.tap.gate, if h.time.toNat < o.entry.time.toNat then o.entry.time else h.time⟩
      let part : ClosingPart :=
        { journey := .complete o.entry exit, tag := s.fau.tag, bank := o.bank, cls := o.cls, ref := .reply entry
          flags := { entryClamped := o.timeClamped, exitClamped := h.clamped, late := o.late || h.late
                     exitBeforeEntry := decide (h.time.toNat < o.entry.time.toNat), assisted := true } }
      ∃ t, exec .tapHoldGranted s = .next t ∧
        t = { s with
          table := t.table, holds := s.matcherReleased b, slots := s.matcherReturned (s.fau.jobs.length + 1)
          matcher := { s.matcher with work := .none }
          fau := { s.fau with
            tag := s.fau.tag + 1
            jobs := s.fau.jobs ++ [{ journey := part.journey, tag := part.tag, token := r.token, bank := part.bank,
                                     cls := part.cls, ref := part.ref, flags := part.flags }] }
          responder := { s.responder with inWork := none } } ∧
        t.way b w = some { r with lastActivity := read.now, openPart := none, closing := some part } ∧
        s.sameWaysBut t b w

/-- An entry by a token with no record: at a station closed for entry it is refused and no record is made (R96); else,
with every way holding a closing part, the tap is put off to a bucket wait (R70), and with a judging bank no longer
ACTIVE it is begun again (R93), both without a change; else a new record with spend 0, last tap, last activity and the
open part takes the way of the order of choice, an evicted or displaced record goes with its recent-expiry part, a
displaced journey becomes a DISPLACED job with a capture, and the verdict is ENTERED (R60, R68, R69, R98, R106). Under a
judging bank that is neither ACTIVE nor RETIRING, whose tables are not looked up (R1), it is begun again before any of
this, which is the model's reading (log 29); which bank is still ACTIVE at the claim is its reading too (log 31). That
the insertion reads the clock at the grant is its choice (log 34). -/
def Obligations.EntryOfANewTokenTakesAWay : Prop :=
  ∀ (s : State) (h : Handling) (b slot position : Nat) (read : Reading) (source : Octet),
    s.inTapHold b read h slot position source → s.lookup b h.tap.token = none →
    h.tap.direction = 1 ∨ h.tap.direction = 3 →
    let day : BitVec 16 := BitVec.ofNat 16 (read.now.toNat / 86400)
    let p := s.placement b day
    let leg : Leg := ⟨h.tap.station, h.tap.gate, h.time⟩
    let record : TokenRecord :=
      { token := h.tap.token, spendDay := day, spentToday := 0, journeysToday := 0, lastTap := some leg
        lastActivity := read.now, closing := none, recent := none
        openPart := some { entry := leg, cls := h.tap.cls, bank := h.judging, timeClamped := h.clamped, late := h.late } }
    (¬s.judgingInUse h → s.putsOff b (.rejudge h)) ∧
    (s.judgingInUse h → openForEntry (s.words h.judging) h.tap.station.toNat = false →
      ∃ t, exec .tapHoldGranted s = .next t ∧
        t = { s with
          station := t.station, holds := t.holds, slots := t.slots, matcher := t.matcher
          responder := { s.responder with counters := { s.responder.counters with
            tapsTaken := s.responder.counters.tapsTaken + 1, tapsRefused := s.responder.counters.tapsRefused + 1 } } } ∧
        s.tapEnds t b slot position
          ⟨true, some .stationClosed, { clamped := h.clamped, late := h.late }, 0, 65535⟩) ∧
    (openForEntry (s.words h.judging) h.tap.station.toNat = true →
      (s.judgingInUse h → p = .full → s.putsOff b (.waitBucket h)) ∧
      (p ≠ .full → ¬s.judgingActive h → s.putsOff b (.rejudge h)) ∧
      (p ≠ .full → s.judgingActive h → ∃ t, exec .tapHoldGranted s = .next t ∧
        t = { s with
          table := t.table, store := t.store, station := t.station, holds := t.holds, slots := t.slots
          matcher := t.matcher, responder := s.insertionSeen b p source
          fau := { s.fau with
            tag := s.fau.tag + BitVec.ofNat 16 (p.jobs s.fau.tag).length, jobs := s.fau.jobs ++ p.jobs s.fau.tag } } ∧
        t.way b p.way = some record ∧ s.sameWaysBut t b p.way ∧ s.insertionBanks t p h.judging ∧
        s.tapEnds t b slot position ⟨true, some .entered, { clamped := h.clamped, late := h.late }, 0, 65535⟩))

/-- An exit by a token with no record: with every way holding a closing part it is put off to a bucket wait (R70); where
the insertion would displace a journey and one reservation alone is held, a second is asked for, the first kept, and
nothing else changes (R24); with a judging bank no longer ACTIVE it is begun again (R93); else it is unmatched: a new
record with spend 0 and the closing part takes the way of the order of choice, its job is submitted after the DISPLACED
job of a displaced journey, and the verdict UNMATCHED waits (R60, R68, R69, R104, R106; which bank is still ACTIVE at
the claim by log 31, and the time of the insertion by log 34). -/
def Obligations.ExitOfANewTokenTakesAWay : Prop :=
  ∀ (s : State) (h : Handling) (b slot position : Nat) (read : Reading) (source : Octet),
    s.inTapHold b read h slot position source → s.lookup b h.tap.token = none → h.tap.direction = 2 →
    let day : BitVec 16 := BitVec.ofNat 16 (read.now.toNat / 86400)
    let p := s.placement b day
    let needsTwo := ∃ w r o, p = .displace w r o
    let leg : Leg := ⟨h.tap.station, h.tap.gate, h.time⟩
    let tag := s.fau.tag + BitVec.ofNat 16 (p.jobs s.fau.tag).length
    let flags : SettleFlags := { exitClamped := h.clamped, late := h.late }
    (p = .full → s.putsOff b (.waitBucket h)) ∧
    (needsTwo → s.slots.matcherReserved < 2 → exec .tapHoldGranted s = .next { s with
      matcher := { s.matcher with work := .waitSecond h }, holds := s.matcherReleased b, slots := s.matcherAsked }) ∧
    (p ≠ .full → ¬needsTwo ∨ 2 ≤ s.slots.matcherReserved →
      (¬s.judgingActive h → s.putsOff b (.rejudge h)) ∧
      (s.judgingActive h → ∃ t, exec .tapHoldGranted s = .next t ∧
        t = { s with
          table := t.table, store := t.store, station := t.station, holds := t.holds, slots := t.slots
          matcher := t.matcher, responder := s.insertionSeen b p source
          fau := { s.fau with
            tag := tag + 1
            jobs := s.fau.jobs ++ p.jobs s.fau.tag ++
              [{ journey := .unmatched leg, tag := tag, token := h.tap.token, bank := h.judging, cls := h.tap.cls
                 ref := .verdict slot position, flags := flags }] } } ∧
        t.way b p.way = some
          { token := h.tap.token, spendDay := day, spentToday := 0, journeysToday := 0, lastTap := some leg
            lastActivity := read.now, openPart := none, recent := none
            closing := some { journey := .unmatched leg, tag := tag, bank := h.judging, cls := h.tap.cls
                              ref := .verdict slot position, flags := flags } } ∧
        s.sameWaysBut t b p.way ∧ s.insertionBanks t p h.judging ∧
        ∃ e, s.tapEnds t b slot position e ∧ e.kind = some .unmatched ∧
          e.flags = { clamped := h.clamped, late := h.late } ∧ e.complete = false))

/-- An entry or unmatched exit by a token with a record whose judging bank is no longer ACTIVE fails its bank claim: the
hold is released with nothing changed, and the record begins again at the station test under the newly ACTIVE bank, with
its time tested afresh. It keeps its reservations and seeks its bucket, or is refused and returns them (R88 to R91,
R93). That the next TAP_RECORD makes those tests, and not the readiness and malformed tests again, is the model's
reading (log 17), and so is that a tap is begun again in the same way where a lookup would read a judging bank that is
neither ACTIVE nor RETIRING, or that has passed another check since (R1; logs 29, 31). Behind a read of the bucket still
to be made, the request waits by the model's choice (log 30). -/
def Obligations.FailedClaimBeginsTheRecordAgain : Prop :=
  (∀ (s : State) (h : Handling) (b slot position : Nat) (read : Reading) (source : Octet) (w : Nat) (r : TokenRecord),
    s.inTapHold b read h slot position source → s.tapFinds b h w r → ¬s.judgingActive h →
    ((h.tap.direction = 1 ∨ (h.tap.direction = 3 ∧ r.openPart = none)) ∧
        (¬s.judgingInUse h ∨ openForEntry (s.words h.judging) h.tap.station.toNat = true)) ∨
      (h.tap.direction = 2 ∧ r.openPart = none ∧ ∀ p, r.recent = some p →
        ¬(serviceDay p.expiryTime = serviceDay read.now ∧
          read.now.toNat - p.expiryTime.toNat ≤ correctionWindow (s.words p.bank))) →
    s.putsOff b (.rejudge h)) ∧
  (∀ (s : State) (h : Handling) (b slot position : Nat) (read : Reading) (source : Octet) (w : Nat) (r : TokenRecord),
    s.inTapHold b read h slot position source → s.lookup b h.tap.token = some (w, r) → r.closing = none →
    h.repeatsTap r → ¬s.judgingInUse h → s.putsOff b (.rejudge h)) ∧
  ∀ (s : State) (h : Handling) (bank : BankId) (slot position : Nat) (source : Octet),
    s.matcher.work = .rejudge h → s.activeBank = some bank → h.origin = .tap slot position source →
    (s.verdictAt slot position).isSome = true → s.slots.matcherRequest = .none → 0 < s.slots.matcherReserved →
    let m := s.words bank
    let now := s.clock.lineSeconds
    let again : Handling :=
      if now.toNat < h.tap.time.toNat then
        { h with judging := bank, lapsed := false, time := now, clamped := true, late := false }
      else { h with
        judging := bank, lapsed := false, time := h.tap.time, clamped := false
        late := decide (lateLimit m < now.toNat - h.tap.time.toNat) }
    let refused := fun (kind : VerdictKind) => ∃ t, exec .tapRecord s = .next t ∧
      t = { s with
        station := s.station.withEntry slot position ⟨true, some kind, {}, 0, 65535⟩
        slots := s.matcherReturned s.fau.jobs.length, matcher := s.matcher.recordEnded
        responder := { s.responder with
          fault :=
            if kind = .unknownStation then
              s.responder.fault.after .unknownStation now source 0 (h.tap.station.setWidth 16)
            else s.responder.fault
          counters := { s.responder.counters with
            tapsTaken := s.responder.counters.tapsTaken + 1, tapsRefused := s.responder.counters.tapsRefused + 1 } } } ∧
      t.verdictAt slot position = some ⟨true, some kind, {}, 0, 65535⟩
    (stationCount m ≤ h.tap.station.toNat → refused .unknownStation) ∧
    (h.tap.station.toNat < stationCount m → denied m h.tap.token = true → refused .denied) ∧
    (h.tap.station.toNat < stationCount m → denied m h.tap.token = false →
      exec .tapRecord s = .next { s with
        matcher := { s.matcher with work := .waitHold again }
        holds := { s.holds with matcher := s.holdGiven (s.bucketOf h.tap.token) } })

/-- The choice of way at an insertion: the lowest-numbered way that is empty or stale; with none, the record without an
open or closing part whose last activity is oldest; with none, the record with an open and no closing part whose entry
time is oldest, ties to the lowest way; with none, the insertion must wait (R68 to R70, Table 4-4). -/
def Obligations.InsertionTakesTheWayOfTheTable : Prop :=
  ∀ (s : State) (b : Nat) (day : BitVec 16),
    let usable := fun (w : Nat) => s.way b w = none ∨ ∃ r, s.way b w = some r ∧ r.stale day = true
    let evictable := fun (w : Nat) (r : TokenRecord) => w < 8 ∧ s.way b w = some r ∧ r.openPart = none ∧ r.closing = none
    let displaceable := fun (w : Nat) (r : TokenRecord) (o : OpenPart) =>
      w < 8 ∧ s.way b w = some r ∧ r.openPart = some o ∧ r.closing = none
    match s.placement b day with
    | .free w => w < 8 ∧ usable w ∧ ∀ v < w, ¬usable v
    | .evict w r => (∀ v < 8, ¬usable v) ∧ evictable w r ∧
        ∀ v q, evictable v q → r.lastActivity.toNat < q.lastActivity.toNat ∨
          (r.lastActivity.toNat = q.lastActivity.toNat ∧ w ≤ v)
    | .displace w r o => (∀ v < 8, ¬usable v) ∧ (∀ v q, ¬evictable v q) ∧ displaceable w r o ∧
        ∀ v q p, displaceable v q p → o.entry.time.toNat < p.entry.time.toNat ∨
          (o.entry.time.toNat = p.entry.time.toNat ∧ w ≤ v)
    | .full => (∀ v < 8, ¬usable v) ∧ (∀ v q, ¬evictable v q) ∧ ∀ v q p, ¬displaceable v q p

/-! ### The Fare Arithmetic Unit -/

/-- The IDLE FAU takes the job submitted earliest into COMPUTING. Its slot is free: a Matcher that waits is granted a
slot at once, and a Sweeper that waits is granted one where the Matcher leaves it one. Nothing else changes but the
accumulator and the intermediate, whose contents in COMPUTING are the model's choice (R19, R21, R22, R38; log 19). -/
def Obligations.OldestJobIsTakenAndItsSlotGranted : Prop :=
  ∀ (s : State) (job : Job) (rest : List Job), s.fau.state = .idle → s.fau.jobs = job :: rest →
    s.fau.jobs.length + s.slots.matcherReserved + s.slots.sweeperReserved ≤ 8 →
    let matcher := s.slots.matcherRequest = .waiting
    let sweeper := s.slots.sweeperRequest = .waiting ∧
      (s.slots.matcherRequest ≠ .waiting ∨
        s.fau.jobs.length + s.slots.matcherReserved + s.slots.sweeperReserved < 8)
    ∃ t, exec .jobTakenIntoWork s = .next t ∧
      t = { s with
        fau := { s.fau with
          state := .computing job, jobs := rest, accumulator := t.fau.accumulator, intermediate := t.fau.intermediate }
        slots :=
          { matcherRequest := if matcher then .granted else s.slots.matcherRequest
            matcherReserved := s.slots.matcherReserved + (if matcher then 1 else 0)
            sweeperRequest := if sweeper then .granted else s.slots.sweeperRequest
            sweeperReserved := s.slots.sweeperReserved + (if sweeper then 1 else 0) } }

/-- Stages 1 to 4 end in WAIT_SETTLEMENT with the charged distance, the two path ends and the reference time of the
job's kind (Table 2-3), the fare, the version word of the job's bank, and OVERRIDE_USED exactly where an override pair
gave the distance. The fare is the base charge scaled by the band factor and then by the class factor, brought to cents,
stepped by the rounding mode and clamped, or 0 under a class factor of 0; an exit that is not in force is priced to the
farthest station of the entry; a CANCELLED job has distance 0 and fare 0. The accumulator and the intermediate hold
nothing more, which the model shows as 0 (log 19). Nothing else changes (R19, R28 to R30, R32 to R38). The charged
distance is that of the first override pair in force that names the two stations in either order, else the geometric
distance up to 65535 (R8, R9); the day type is 2 for a holiday in force, else the map's entry for the weekday (R12); the
band factor is that of the band with the greatest start minute not above the minute of day, under bands that a check has
passed (R13). -/
def Obligations.ComputationHandsOnTheFare : Prop :=
  (∀ (s : State) (job : Job), s.fau.state = .computing job →
    let m := s.words job.bank
    let fare := fun (distance : Nat) (reference : LineTime) =>
      let banded := (baseCharge m distance * bandFactorAt m reference + 8192) / 16384
      let scaled := (banded * classFactor m job.cls + 8192) / 16384
      if classFactor m job.cls = 0 then 0
      else min (maxFare m) (max (minFare m) (steppedFare (roundingMode m) (fareStep m) ((scaled + 500) / 1000)))
    let handsOn := fun (distance start finish fare : Nat) (overrideUsed : Bool) =>
      exec .computationComplete s = .next { s with fau := { s.fau with
        state := .waitSettlement
          { job with flags := { job.flags with overrideUsed := job.flags.overrideUsed || overrideUsed } }
          { distance := distance, pathStart := start, pathEnd := finish, fare := fare, version := wordAt m 0 }
        accumulator := 0, intermediate := 0 } }
    let pair := fun (e x : Leg) =>
      (x.station.toNat < stationCount m →
        handsOn (chargedDistance m e.station.toNat x.station.toNat) e.station.toNat x.station.toNat
          (fare (chargedDistance m e.station.toNat x.station.toNat) e.time)
          (overrideFor m e.station.toNat x.station.toNat).isSome) ∧
      (stationCount m ≤ x.station.toNat →
        handsOn (derivedDistance m e.station.toNat) e.station.toNat (derivedStation m e.station.toNat)
          (fare (derivedDistance m e.station.toNat) e.time) false)
    match job.journey with
    | .complete e x => pair e x
    | .correction e x _ => pair e x
    | .cancelled e _ => handsOn 0 e.station.toNat e.station.toNat 0 false
    | .unmatched x =>
        handsOn (derivedDistance m x.station.toNat) (derivedStation m x.station.toNat) x.station.toNat
          (fare (derivedDistance m x.station.toNat) x.time) false
    | .incomplete e | .expired e | .displaced e =>
        handsOn (derivedDistance m e.station.toNat) e.station.toNat (derivedStation m e.station.toNat)
          (fare (derivedDistance m e.station.toNat) e.time) false) ∧
  (∀ (m : WordMem) (a z : Nat),
    ((∀ p, ¬overrideNames m p a z) →
      overrideFor m a z = none ∧ chargedDistance m a z = min 65535 (geometricDistance m a z)) ∧
    ∀ p, overrideNames m p a z → (∀ q < p, ¬overrideNames m q a z) →
      overrideFor m a z = some (overrideDistance m p) ∧ chargedDistance m a z = overrideDistance m p) ∧
  (∀ (m : WordMem) (n : Nat),
    ((∃ h < holidayCount m, holiday m h = n) → dayType m n = 2) ∧
    ((∀ h < holidayCount m, holiday m h ≠ n) → dayType m n = dayTypeMap m ((n + weekdayOffset m) % 7))) ∧
  ∀ (m : WordMem) (t : LineTime) (j : Nat),
    let d := dayType m (t.toNat / 86400)
    let minute := t.toNat % 86400 / 60
    stepHolds m 6 → d ≤ 2 → j < bandCount m d → bandStart m d j ≤ minute →
    (∀ k < bandCount m d, bandStart m d k ≤ minute → bandStart m d k ≤ bandStart m d j) →
    bandFactorAt m t = bandFactor m d j

/-- With a free settlement entry the FAU requests the bucket of the job's token and is in WAIT_HOLD; with none it waits
(R19, R20, R73; where a read of the bucket is still to be made, by log 30). A DISPLACED job is settled without a hold:
whole fare, apportioned, CAP_UNTRACKED, spent after 0, the next serial, its bank's count one lower, and no record
changes (R44, R48, R50, R51, R58, R153). -/
def Obligations.SettlementEntryEndsTheWait : Prop :=
  ∀ (s : State) (job : Job) (r : FareResult), s.fau.state = .waitSettlement job r →
    (64 ≤ s.office.settlements.length → exec .waitSettlementEnd s = .next s) ∧
    (s.office.settlements.length < 64 → (∀ e, job.journey ≠ .displaced e) →
      exec .waitSettlementEnd s = .next { s with
        fau := { s.fau with state := .waitHold job r }
        holds := { s.holds with fau := s.holdGiven (s.bucketOf job.token) } }) ∧
    (∀ e, s.office.settlements.length < 64 → job.journey = .displaced e → job.ref = .none →
      ∃ t x, exec .waitSettlementEnd s = .next t ∧
        t = { s with
          store := t.store
          fau := { s.fau with state := .idle, serial := s.fau.serial + 1 }
          office := { s.office with settlements := s.office.settlements ++ [x] }
          responder := { s.responder with counters := { s.responder.counters with
            settlementsEmitted := s.responder.counters.settlementsEmitted + 1 } } } ∧
        x.serial = s.fau.serial ∧ x.journey = job.journey ∧ x.token = job.token ∧ x.cls = job.cls ∧
        x.fare = r.fare ∧ x.amount = r.fare ∧ x.spentAfter = 0 ∧ x.distance = r.distance ∧ x.version = r.version ∧
        x.flags = { job.flags with capUntracked := true } ∧
        x.shares = apportion (s.words job.bank) s.fau.channels job.journey r r.fare ∧
        s.banksReleased t fun k => if k = job.bank then 1 else 0)

/-- The write-back of a tracked job that is not EXPIRED, with the service day and the channel mask as read at the grant
of its bucket: after the lazy daily reset a CORRECTION's old charge is taken off the spend; the charge is the fare or
the cap room, whichever is less; spend and, but for a CORRECTION, journeys saturate and are written; the closing part is
gone and every other field stays. One settlement with the next serial is appended, whose amount is the charge less any
old charge and whose shares are its apportionment; the waiting verdict entry has the amount and the room after, its slot
being ready where that completes it, or the reply is DONE with serial, fare, amount and room; the bank's count is one
lower; a Matcher that waited for the part, or for a way of the bucket, seeks the bucket again; the bucket is released
and the FAU IDLE. A job whose record is not found, and which answers nothing, is charged its whole fare with
CAP_UNTRACKED, and no record and no bank changes (R41 to R46, R50, R51, R53, R54, R57, R58, R70, R76, R153, R164, R177;
what is done where no record is found is the model's reading, log 21, and that the noticed Matcher's request is among
those ordered at the release its choice, log 33). -/
def Obligations.WriteBackChargesTheRecord : Prop :=
  (∀ (s : State) (job : Job) (r : FareResult) (b w : Nat) (read : Reading) (q : TokenRecord) (c : ClosingPart),
    s.fau.state = .waitHold job r → s.holds.fau = .held b read →
    s.lookupClosing b job.token job.tag = some (w, q, c) →
    (∀ e, job.journey ≠ .expired e) →
    let old := q.onDay (BitVec.ofNat 16 (read.now.toNat / 86400))
    let cap := dailyCap (s.words job.bank) job.cls
    let room := fun (x : Nat) => if cap = 65535 then 65535 else if x < cap then cap - x else 0
    let paid := ((job.journey.oldCharge?).getD 0).toNat
    let rest := if paid < old.spentToday.toNat then old.spentToday.toNat - paid else 0
    let charge := min r.fare (room rest)
    let amount : Int := (charge : Int) - (paid : Int)
    let spent := min 65535 (rest + charge)
    let journeys := if (job.journey.oldCharge?).isSome then old.journeysToday.toNat
      else min 255 (old.journeysToday.toNat + 1)
    ∃ t x, exec .writeBack s = .next t ∧
      t = { s with
        table := t.table, store := t.store, station := t.station, holds := t.holds, matcher := t.matcher
        fau := { s.fau with state := .idle, serial := s.fau.serial + 1 }
        office := { s.office with
          settlements := s.office.settlements ++ [x], replies := t.office.replies, readyReplies := t.office.readyReplies }
        responder := { s.responder with counters := { s.responder.counters with
          settlementsEmitted := s.responder.counters.settlementsEmitted + 1 } } } ∧
      t.way b w = some { old with
        spentToday := BitVec.ofNat 16 spent, journeysToday := BitVec.ofNat 8 journeys, closing := none } ∧
      s.sameWaysBut t b w ∧
      x.serial = s.fau.serial ∧ x.journey = job.journey ∧ x.flags = job.flags ∧ x.token = job.token ∧
      x.cls = job.cls ∧ x.fare = r.fare ∧ x.amount = amount ∧ x.spentAfter = BitVec.ofNat 16 spent ∧
      x.distance = r.distance ∧ x.version = r.version ∧
      x.shares = apportion (s.words job.bank) read.channels job.journey r amount ∧
      (-(paid : Int) ≤ amount ∧ amount ≤ (r.fare : Int) - paid) ∧
      (∀ slot position e, job.ref = .verdict slot position → s.verdictAt slot position = some e →
        let filled := { e with complete := true, charge := amount, capRoom := BitVec.ofNat 16 (room spent) }
        t.verdictAt slot position = some filled ∧ t.station = s.station.withEntry slot position filled) ∧
      (∀ i e, job.ref = .reply i → s.office.replies[i]? = some e →
        t.office.replies = s.office.replies.set i { e with
          state := .ready, status := .done
          data := octetsOf32 s.fau.serial ++ natToOctets 2 r.fare ++ intToOctets 4 amount ++
            natToOctets 2 (room spent) } ∧
        t.office.readyReplies = s.office.readyReplies ++ [i]) ∧
      ((∀ slot position, job.ref ≠ .verdict slot position) → t.station = s.station) ∧
      ((∀ i, job.ref ≠ .reply i) →
        t.office.replies = s.office.replies ∧ t.office.readyReplies = s.office.readyReplies) ∧
      (s.banksReleased t fun k => if k = job.bank then 1 else 0) ∧ t.holds.fau = .none ∧ s.noticed t b job.token) ∧
  ∀ (s : State) (job : Job) (r : FareResult) (b : Nat) (read : Reading), s.fau.state = .waitHold job r →
    s.holds.fau = .held b read →
    s.lookupClosing b job.token job.tag = none → job.ref = .none →
    ∃ t x, exec .writeBack s = .next t ∧
      t = { s with
        holds := t.holds
        fau := { s.fau with state := .idle, serial := s.fau.serial + 1 }
        office := { s.office with settlements := s.office.settlements ++ [x] }
        responder := { s.responder with counters := { s.responder.counters with
          settlementsEmitted := s.responder.counters.settlementsEmitted + 1 } } } ∧
      x.serial = s.fau.serial ∧ x.journey = job.journey ∧ x.token = job.token ∧ x.fare = r.fare ∧
      x.amount = r.fare ∧ x.spentAfter = 0 ∧ x.flags = { job.flags with capUntracked := true } ∧
      x.shares = apportion (s.words job.bank) read.channels job.journey r r.fare ∧
      t.holds = s.holdsReleased { s.holds with fau := .none } b

/-- The write-back of a tracked EXPIRED job: the spend is that of stage 5 and the closing part is gone. Under a
correction window above 0 it turns into a recent-expiry part with the charge and, as the model reads R47 (log 32), the
clock's time at the grant, its reference moves with it, and that of a part it replaces is released; under a window of 0
none is made, an earlier one stays, and the reference is released (R47). One settlement with the next serial is
appended, whose amount is the charge and whose shares are its apportionment; the bucket is released, a Matcher that
waited seeks it again, and the FAU is IDLE (R42, R45, R46, R50, R51, R57, R58, R70, R76, R153; that the noticed
Matcher's request is among those ordered at the release is the model's choice, log 33). -/
def Obligations.ExpiryLeavesARecentPart : Prop :=
  ∀ (s : State) (job : Job) (r : FareResult) (b w : Nat) (read : Reading) (q : TokenRecord) (c : ClosingPart)
    (e : Leg), s.fau.state = .waitHold job r → s.holds.fau = .held b read →
    s.lookupClosing b job.token job.tag = some (w, q, c) → job.journey = .expired e → job.ref = .none →
    let old := q.onDay (BitVec.ofNat 16 (read.now.toNat / 86400))
    let cap := dailyCap (s.words job.bank) job.cls
    let spent := old.spentToday.toNat
    let charge := min r.fare (if cap = 65535 then 65535 else if spent < cap then cap - spent else 0)
    let written := { old with
      spentToday := BitVec.ofNat 16 (min 65535 (spent + charge))
      journeysToday := BitVec.ofNat 8 (min 255 (old.journeysToday.toNat + 1)), closing := none }
    ∃ t x, exec .writeBack s = .next t ∧
      t = { s with
        table := t.table, store := t.store, holds := t.holds, matcher := t.matcher
        fau := { s.fau with state := .idle, serial := s.fau.serial + 1 }
        office := { s.office with settlements := s.office.settlements ++ [x] }
        responder := { s.responder with counters := { s.responder.counters with
          settlementsEmitted := s.responder.counters.settlementsEmitted + 1 } } } ∧
      s.sameWaysBut t b w ∧
      x = { serial := s.fau.serial, journey := job.journey, flags := job.flags, token := job.token, cls := job.cls
            version := r.version, distance := r.distance, fare := r.fare, amount := charge
            spentAfter := BitVec.ofNat 16 (min 65535 (spent + charge))
            shares := apportion (s.words job.bank) read.channels job.journey r charge } ∧
      (correctionWindow (s.words job.bank) = 0 →
        t.way b w = some written ∧ s.banksReleased t fun k => if k = job.bank then 1 else 0) ∧
      (0 < correctionWindow (s.words job.bank) →
        t.way b w = some { written with
          recent := some { entry := e, cls := job.cls, bank := job.bank, expiryTime := read.now
                           charged := BitVec.ofNat 16 charge } } ∧
        s.banksReleased t fun k => if q.recent.map (·.bank) = some k then 1 else 0) ∧
      t.holds.fau = .none ∧ s.noticed t b job.token

/-! ### Fares, charges and shares -/

/-- Stage 2: the boarding charge in millicents and, for each tier in force, the length of the distance in it times its
rate; the tier lengths add up to the distance, and the sum is at most 4,360,371,225, below 2^33 (R31). -/
def Obligations.BaseChargeIsExactAndBounded : Prop :=
  ∀ (m : WordMem) (d : Nat), countsInRange m = true → parametersInRange m = true → tiersIncrease m = true → d ≤ 65535 →
    baseCharge m d = boardingCharge m * 1000 +
      ((List.range (tierCount m)).map fun i => tierLength m d (i + 1) * tierRate m (i + 1)).sum ∧
    ((List.range (tierCount m)).map fun i => tierLength m d (i + 1)).sum = d ∧
    (∀ i, 1 ≤ i → i < tierCount m → tierLength m d i =
      if (if i = 1 then 0 else tierBoundary m (i - 1)) < d then
        min d (tierBoundary m i) - (if i = 1 then 0 else tierBoundary m (i - 1)) else 0) ∧
    baseCharge m d ≤ 4360371225 ∧ baseCharge m d < 2 ^ 33

/-- Stage 4, the step: UP gives the least multiple of the step not below C, DOWN the greatest not above it, NEAREST a
nearest one with halves up; a multiple stays itself in every mode, and a step of 1 leaves every C (R35). -/
def Obligations.SteppedFareRoundsByItsMode : Prop :=
  ∀ step c : Nat, 1 ≤ step →
    (steppedFare 0 step c = (c + step / 2) / step * step ∧
      2 * steppedFare 0 step c ≤ 2 * c + step ∧ 2 * c < 2 * steppedFare 0 step c + step) ∧
    (step ∣ steppedFare 1 step c ∧ c ≤ steppedFare 1 step c ∧ ∀ q, step ∣ q → c ≤ q → steppedFare 1 step c ≤ q) ∧
    (step ∣ steppedFare 2 step c ∧ steppedFare 2 step c ≤ c ∧ ∀ q, step ∣ q → q ≤ c → q ≤ steppedFare 2 step c) ∧
    ∀ mode, mode ≤ 2 → step ∣ c → steppedFare mode step c = c

/-- Stage 5 of a tracked job but a CORRECTION: the charge is the fare or the cap room, whichever is less; spend and
journeys saturate; the amount is the charge; and a capped spend never passes its cap (R42). Of a CORRECTION: the old
charge is taken off the spend, the corrected fare is charged against what remains, and the amount lies between minus the
old charge and the fare minus it; journeys stay (R43). -/
def Obligations.ChargesStayUnderTheCap : Prop :=
  (∀ cap fare spent journeys : Nat, cap ≤ 65535 → fare ≤ 65535 → spent ≤ 65535 → journeys ≤ 255 →
    let room := fun (x : Nat) => if cap = 65535 then 65535 else if x < cap then cap - x else 0
    let c := chargeTracked cap fare spent journeys
    c.charge = min fare (room spent) ∧ c.spentAfter = min 65535 (spent + c.charge) ∧
      c.journeys = min 255 (journeys + 1) ∧ c.amount = c.charge ∧ c.roomAfter = room c.spentAfter ∧
      (fare = 0 → c.charge = 0 ∧ c.spentAfter = spent) ∧ (room spent = 0 → c.charge = 0) ∧
      (cap < 65535 → spent ≤ cap → c.spentAfter ≤ cap) ∧ (cap < 65535 → cap < spent → c.spentAfter = spent) ∧
      (cap = 65535 → c.charge = fare)) ∧
  ∀ cap fare old spent journeys : Nat, cap ≤ 65535 → fare ≤ 65535 → old ≤ 65535 → spent ≤ 65535 →
    let rest := if old < spent then spent - old else 0
    let room := fun (x : Nat) => if cap = 65535 then 65535 else if x < cap then cap - x else 0
    let c := chargeCorrection cap fare old spent journeys
    c.charge = min fare (room rest) ∧ c.amount = (c.charge : Int) - old ∧
      c.spentAfter = min 65535 (rest + c.charge) ∧ c.journeys = journeys ∧ c.roomAfter = room c.spentAfter ∧
      -(old : Int) ≤ c.amount ∧ c.amount ≤ (fare : Int) - old

/-- Stage 6, the division by the largest remainder: first shares rounded down; at most 3 cents left over, fewer than the
operators with a remainder; one further cent for each of as many operators, greater remainders first and of equal ones
the lower numbers; the amount's sign. The shares add up to the amount, one for each operator that owns part of the path,
in ascending order. For an amount up to 65535 over lengths up to 196605 the products stay below 2^34 (R58). -/
def Obligations.SharesAddUpToTheAmount : Prop :=
  ∀ (amount : Int) (d : List Nat), d.length = 4 → 0 < d.sum →
    let a := amount.natAbs
    let shares := divideAmount amount d
    let first := fun (k : Nat) => a * d.getD k 0 / d.sum
    let remainder := fun (k : Nat) => a * d.getD k 0 % d.sum
    let left := a - ((List.range 4).map first).sum
    let owners := (List.range 4).filter (fun k => decide (0 < d.getD k 0))
    (shares.map (·.amount)).sum = amount ∧
      shares.map (·.operator) = owners ∧ 1 ≤ shares.length ∧ shares.length ≤ 4 ∧
      left ≤ 3 ∧ (0 < left → left < (owners.filter fun k => decide (0 < remainder k)).length) ∧
      (∀ x ∈ shares, (0 ≤ amount → 0 ≤ x.amount) ∧ (amount < 0 → x.amount ≤ 0)) ∧
      (∀ x ∈ shares, x.amount.natAbs = first x.operator ∨ x.amount.natAbs = first x.operator + 1) ∧
      (shares.filter fun x => decide (x.amount.natAbs = first x.operator + 1)).length = left ∧
      (∀ x ∈ shares, ∀ y ∈ shares, x.amount.natAbs = first x.operator + 1 → y.amount.natAbs = first y.operator →
        remainder y.operator < remainder x.operator ∨
          (remainder y.operator = remainder x.operator ∧ x.operator < y.operator)) ∧
      (a ≤ 65535 → (∀ k, d.getD k 0 ≤ 196605) → ∀ k, a * d.getD k 0 < 2 ^ 34)

/-- The spans of a path add up to the geometric distance of its two ends (R55), the distance is the same in both
directions (R7), and folding the disabled channels moves owned length without losing any (R57). Operators 1 to 3 own the
overlaps of their territories in force with the spans on their branch, none at or above the operator count, operator 0
the rest, and under territories that do not overlap the owned lengths add up to the path length (R56). A path with
length is divided by its owned lengths after the fold (R58); one without gives the whole amount to the owner of the
entry station, of the exit station for an UNMATCHED job, or to operator 0 where that owner's channel is disabled
(R59). -/
def Obligations.PathLengthIsTheGeometricDistance : Prop :=
  (∀ (m : WordMem) (s t : Nat), pathLength (pathSpans m s t) = geometricDistance m s t ∧
    geometricDistance m s t = geometricDistance m t s ∧ chargedDistance m s t = chargedDistance m t s ∧
    chargedDistance m s t ≤ 65535 ∧ chargedDistance m s s = 0) ∧
  (∀ (channels : BitVec 4) (d : List Nat), d.length = 4 →
    (foldChannels channels d).sum = d.sum ∧ (foldChannels channels d).length = 4 ∧
      ∀ k, 1 ≤ k → k ≤ 3 → (foldChannels channels d).getD k 0 = if channels.getLsbD k then d.getD k 0 else 0) ∧
  (∀ (m : WordMem) (a z : Nat),
    let spans := pathSpans m a z
    let d := ownedLengths m spans
    d.length = 4 ∧
      (∀ k, 1 ≤ k → k ≤ 3 → d.getD k 0 = if operatorCount m ≤ k then 0
        else (spans.map fun p => ((List.range (territoryCount m)).map fun i =>
          if territoryBranch m i = p.branch ∧ territoryOperator m i = k then
            min (territoryTo m i) p.hi - max (territoryFrom m i) p.lo else 0).sum).sum) ∧
      d.getD 0 0 = pathLength spans - (d.getD 1 0 + d.getD 2 0 + d.getD 3 0) ∧
      (territoriesSound m = true → d.sum = pathLength spans)) ∧
  ∀ (m : WordMem) (channels : BitVec 4) (journey : Journey) (r : FareResult) (amount : Int),
    let spans := pathSpans m r.pathStart r.pathEnd
    let shares := apportion m channels journey r amount
    (0 < pathLength spans → shares = divideAmount amount (foldChannels channels (ownedLengths m spans))) ∧
    (pathLength spans = 0 →
      let leg := match journey with
        | .unmatched x => x
        | .complete e _ | .cancelled e _ | .incomplete e | .correction e _ _ | .expired e | .displaced e => e
      let owner := stationOwner m leg.station.toNat
      shares = [{ operator := if 1 ≤ owner ∧ channels.getLsbD owner = false then 0 else owner, amount := amount }])

/-! ### The Expiry Sweeper -/

/-- An examination of a bucket with no open part, in BURST or STOPPING: a record with a closing part is skipped whole;
another loses an overdue recent-expiry part, whose bank reference is released, and is freed where it is then without a
part and its spend day is another. The pointer and the round advance and a completed round is counted. The bucket is
released to the block that waits for it, and the Sweeper's slot returned. The burst requests the bucket at the new
pointer, or ends after its fourth in PAUSE, in IDLE in STOPPING or after a SINGLE pass (R22, R25, R73, R74, R114, R116,
R118, R120, R121, R153). -/
def Obligations.ExaminationDropsAndFrees : Prop :=
  ∀ (s : State) (b : Nat) (read : Reading), s.storesCanonical → s.sweeper.state = .burst ∨ s.sweeper.state = .stopping →
    s.holds.sweeper = .held b read → (∀ w < 8, ∀ r, s.way b w = some r → r.closing = none → r.openPart = none) →
    let today : BitVec 16 := BitVec.ofNat 16 (read.now.toNat / 86400)
    ∃ t, exec .sweepHoldGranted s = .next t ∧
      t = { s with
        table := t.table, store := t.store, slots := s.sweeperReturned, holds := s.holdsExamined b
        sweeper := s.sweeperExamined } ∧
      s.sameWaysOutside t b ∧ s.banksReleased t (s.partsDropped b read.now) ∧
      ∀ w < 8,
        (s.way b w = none → t.way b w = none) ∧
        ∀ r, s.way b w = some r →
          let overdue := ∃ p, r.recent = some p ∧ s.overdue read.now p = true
          (r.closing.isSome = true → t.way b w = some r) ∧
          (r.closing = none → (r.recent = none ∨ overdue) → r.spendDay ≠ today → t.way b w = none) ∧
          (r.closing = none → overdue → r.spendDay = today → t.way b w = some { r with recent := none }) ∧
          (r.closing = none → r.recent = none → r.spendDay = today → t.way b w = some r) ∧
          (r.closing = none → r.recent.isSome = true → ¬overdue → t.way b w = some r)

/-- An open part whose age at sweep now is the max journey duration of its bank or above is due. With a slot at hand it
becomes a closing part of kind EXPIRED, without reference, whose job is submitted with the same tag; no bank count
changes, and an unused reserved slot is returned (R114, R117). With none, the hold is released with the part unchanged,
and the pointer stays: in BURST the Sweeper waits for a slot, in STOPPING it is IDLE (R119). A part that is not due
stays. But for that wait, the slot kept is returned and the burst goes on or ends as after any examination, and every
release hands the bucket to the block that waits for it (R22, R25, R73, R74, R114, R121). The statement is of a bucket
whose other records all hold closing parts, which are skipped (R116). -/
def Obligations.DueJourneysExpireOrWait : Prop :=
  ∀ (s : State) (b w : Nat) (read : Reading) (r : TokenRecord) (o : OpenPart), s.holds.sweeper = .held b read →
    s.sweeper.state = .burst ∨ s.sweeper.state = .stopping → w < 8 → s.way b w = some r → r.openPart = some o →
    r.closing = none → r.recent = none → (∀ v < 8, v ≠ w → ∀ q, s.way b v = some q → q.closing.isSome = true) →
    let age := read.now.toNat - o.entry.time.toNat
    let due := maxJourneyDuration (s.words o.bank) ≤ age
    let atHand := 0 < s.slots.sweeperReserved ∨ 0 < s.freeSlots
    let part : ClosingPart :=
      { journey := .expired o.entry, tag := s.fau.tag, bank := o.bank, cls := o.cls, ref := .none
        flags := { entryClamped := o.timeClamped, late := o.late } }
    (¬due → exec .sweepHoldGranted s = .next { s with
      holds := s.holdsExamined b, slots := s.sweeperReturned, sweeper := s.sweeperExamined }) ∧
    (due → atHand → ∃ t, exec .sweepHoldGranted s = .next t ∧
      t = { s with
        table := t.table, holds := s.holdsExamined b, slots := ({ s with fau := t.fau } : State).sweeperReturned
        sweeper := s.sweeperExamined
        fau := { s.fau with
          tag := s.fau.tag + 1
          jobs := s.fau.jobs ++ [{ journey := part.journey, tag := part.tag, token := r.token, bank := part.bank,
                                   cls := part.cls, ref := part.ref, flags := part.flags }] } } ∧
      t.way b w = some { r with openPart := none, closing := some part } ∧ s.sameWaysBut t b w) ∧
    (due → ¬atHand → exec .sweepHoldGranted s = .next { s with
        holds := s.sweeperReleased b
        sweeper := { s.sweeper with state := if s.sweeper.state = .stopping then .idle else .waitSlot }
        slots := if s.sweeper.state = .stopping then s.slots else { s.slots with sweeperRequest := .waiting } })

/-- The power-up pass writes every way of its bucket empty and leaves every other bucket; it goes on to the next bucket
with the Matcher STARTING, and after the last bucket the Sweeper is IDLE with its defaults and the Matcher READY where
the clock is SET and a bank ACTIVE, else WAITING; it makes no job and no capture (R82, R110, R122, R123). The restart
pass over a bucket without closing parts leaves every record as it stands, counts each open and recent-expiry part to
its bank and goes on to the next bucket; no job is made (R124, R125). After the last bucket a RETIRING bank whose count
is 0 is STAGING, a SCHEDULED one whose time has come is CHECKING where the clock is SET, the Matcher is READY or WAITING
by the same test, and the Sweeper is IDLE with its defaults and holds no bucket and no slot (R82, R110, R122, R154; the
fields that serve a burst, a pause or a start pass alone stand where the model's choice puts them, log 26). -/
def Obligations.StartPassesWorkTheirBucket : Prop :=
  (∀ (s : State) (b : Nat) (read : Reading), s.holds.sweeper = .held b read → s.sweeper.state = .startPass →
    s.sweeper.passKind = .powerUp →
    ∃ t, exec .powerUpStartPassBucket s = .next t ∧
      (∀ w < 8, t.way b w = none) ∧ s.sameWaysOutside t b ∧
      (t.fau = s.fau ∧ t.clock = s.clock ∧ t.station = s.station ∧ t.office = s.office ∧ t.responder = s.responder) ∧
      (b + 1 < s.bucketCount → t.matcher = s.matcher ∧ t.store = s.store ∧
        t.sweeper = { s.sweeper with passBucket := b + 1, passWay := 0 } ∧ t.holds = s.sweeperGoesOn b (b + 1) ∧
        t.slots = s.slots) ∧
      (s.bucketCount ≤ b + 1 → t.holds = s.sweeperReleased b ∧ t.slots = s.sweeperReturned ∧
        (t.sweeper.state = .idle ∧ t.sweeper.mode = .continuous ∧ t.sweeper.pause = 20 ∧ t.sweeper.pointer = 0 ∧
          t.sweeper.round = 0 ∧ t.sweeper.passCounter = 0 ∧ t.sweeper.passComplete = false) ∧
        (s.clock.set = true → s.activeBank.isSome = true → t.matcher.readiness = .ready) ∧
        (s.clock.set = false ∨ s.activeBank = none → t.matcher.readiness = .waiting))) ∧
  ∀ (s : State) (b : Nat) (read : Reading), s.holds.sweeper = .held b read → s.sweeper.state = .startPass →
    s.sweeper.passKind = .restart →
    s.sweeper.passWay = 0 → b < s.dramWritten →
    (∀ w < 8, ∀ r, s.way b w = some r → r.closing = none) →
    let counted := fun (k : BankId) => (s.bank k).refs +
      ((List.range 8).map fun w => ((s.way b w).map fun r => r.namings k).getD 0).sum
    (b + 1 < s.bucketCount → ∃ t, exec .restartStartPassBucket s = .next t ∧
      t = { s with
        store := t.store, holds := s.sweeperGoesOn b (b + 1)
        sweeper := { s.sweeper with passBucket := b + 1, passWay := 0 } } ∧
      (∀ k, t.bank k = { s.bank k with refs := counted k }) ∧
      t.store = { s.store with bankA := t.store.bankA, bankB := t.store.bankB }) ∧
    (s.bucketCount ≤ b + 1 → ∃ t, exec .restartStartPassBucket s = .next t ∧
      t = { s with
        store := t.store, holds := s.sweeperReleased b, slots := s.sweeperReturned
        matcher := { s.matcher with readiness :=
          if s.clock.set = true ∧ s.activeBank.isSome = true then .ready else .waiting }
        sweeper :=
          { state := .idle, mode := .continuous, pause := 20, pointer := 0, round := 0, passCounter := 0
            passComplete := false, burstDone := 0, ticks := 0, passKind := .powerUp, passBucket := 0, passWay := 0 } } ∧
      t.store = { s.store with bankA := t.store.bankA, bankB := t.store.bankB } ∧
      ∀ k,
        let begins := (s.bank k).state = .scheduled ∧ s.clock.set = true ∧
          ((s.bank k).activation.any fun a => decide (a.toNat ≤ s.clock.lineSeconds.toNat)) = true
        t.bank k = { s.bank k with
          refs := counted k
          state := if (s.bank k).state = .retiring ∧ counted k = 0 then .staging
            else if begins then .checking else (s.bank k).state
          derivedDone := if begins then 0 else (s.bank k).derivedDone })

/-- The restart pass at a bucket with one closing part ahead of it. With a slot at hand the part is given a fresh tag,
the flag RESUBMITTED and no reference, and its job, which carries the same, is submitted; every part of the ways passed
is counted to its bank, and the pass goes on to the next bucket. With none, the ways before it are counted, the hold is
released, and the pass notes that way and waits for a slot. Open parts, recent-expiry parts and partless records stay
(R27, R39, R124, R125). -/
def Obligations.RestartPassResubmitsClosingParts : Prop :=
  ∀ (s : State) (b w : Nat) (read : Reading) (r : TokenRecord) (c : ClosingPart), s.holds.sweeper = .held b read →
    s.sweeper.state = .startPass → s.sweeper.passKind = .restart → b < s.dramWritten →
    s.sweeper.passWay ≤ w → w < 8 → s.way b w = some r → r.closing = some c →
    (∀ v < 8, s.sweeper.passWay ≤ v → v ≠ w → ∀ q, s.way b v = some q → q.closing = none) →
    let named := fun (v : Nat) (k : BankId) =>
      if s.sweeper.passWay ≤ v then ((s.way b v).map fun q => q.namings k).getD 0 else 0
    let atHand := 0 < s.slots.sweeperReserved ∨ 0 < s.freeSlots
    let part : ClosingPart := { c with tag := s.fau.tag, ref := .none, flags := { c.flags with resubmitted := true } }
    (atHand → b + 1 < s.bucketCount → ∃ t, exec .restartStartPassBucket s = .next t ∧
      t = { s with
        table := t.table, store := t.store, holds := s.sweeperGoesOn b (b + 1)
        slots := { s.slots with sweeperReserved := s.slots.sweeperReserved - 1 }
        sweeper := { s.sweeper with passBucket := b + 1, passWay := 0 }
        fau := { s.fau with
          tag := s.fau.tag + 1
          jobs := s.fau.jobs ++ [{ journey := part.journey, tag := part.tag, token := r.token, bank := part.bank,
                                   cls := part.cls, ref := part.ref, flags := part.flags }] } } ∧
      t.way b w = some { r with closing := some part } ∧ s.sameWaysBut t b w ∧
      ∀ k, t.bank k = { s.bank k with refs := (s.bank k).refs + ((List.range 8).map fun v => named v k).sum }) ∧
    (¬atHand → ∃ t, exec .restartStartPassBucket s = .next t ∧
      t = { s with
        store := t.store, holds := s.sweeperReleased b
        slots := { s.slots with sweeperRequest := .waiting }, sweeper := { s.sweeper with passWay := w } } ∧
      ∀ k, t.bank k = { s.bank k with refs := (s.bank k).refs + ((List.range w).map fun v => named v k).sum })

/-! ### The Table Store -/

/-- The pass of an activation check: the bank is ACTIVE without an activation time and with its code as it was; its
derived column gives each station in force its greatest charged distance and the lowest station at which it is reached,
the words of the others are cleared, and no other word changes; the bank that was ACTIVE is RETIRING, or STAGING where
nothing names it; a WAITING Matcher with the clock SET is READY. A record in work that was judged under this bank
before, while it was ACTIVE earlier, does not stand under it (the model's reading, log 31). Nothing else changes, the
load pointer and a clear in flight among it (R10, R82, R150). -/
def Obligations.PassedCheckActivatesTheBank : Prop :=
  ∀ (s : State) (b : BankId), s.storesCanonical → (s.bank b).state = .checking →
    (s.bank b.other).state ≠ .checking → checkFailure (s.words b) = none →
    ∃ t, exec .activationCheckEnd s = .next t ∧
      t = { s with store := t.store, matcher := t.matcher } ∧
      t.store = { s.store with bankA := t.store.bankA, bankB := t.store.bankB } ∧
      t.bank b = { s.bank b with words := t.words b, state := .active, activation := none, derivedDone := 0 } ∧
      (∀ i < stationCount (s.words b),
        let d := derivedDistance (t.words b) i
        let k := derivedStation (t.words b) i
        k < stationCount (s.words b) ∧ chargedDistance (s.words b) i k = d ∧
          (∀ j < stationCount (s.words b), chargedDistance (s.words b) i j ≤ d) ∧
          ∀ j < k, chargedDistance (s.words b) i j < d) ∧
      (∀ i < 64, stationCount (s.words b) ≤ i → wordAt (t.words b) (1536 + i) = 4294967295) ∧
      (∀ offset, ¬(1536 ≤ offset ∧ offset ≤ 1599) → wordAt (t.words b) offset = wordAt (s.words b) offset) ∧
      ((s.bank b.other).state = .active → t.bank b.other = { s.bank b.other with
        state := if 0 < (s.bank b.other).refs then .retiring else .staging }) ∧
      ((s.bank b.other).state ≠ .active → t.bank b.other = s.bank b.other) ∧
      t.matcher.frame = s.matcher.frame ∧
      t.matcher.work = s.matcher.work.withHandling
        (fun h => if h.judging = b then { h with lapsed := true } else h) ∧
      t.matcher.readiness =
        if s.matcher.readiness = .waiting ∧ s.clock.set = true then .ready else s.matcher.readiness

/-- The failure of an activation check: the bank is STAGING without an activation time and with the failing step's code,
every word is kept, the other bank and the Matcher stay as they are, and ACTIVATION_FAILED is captured with the engine's
node number, the bank and the code (R151, R179). The code names the first step of 1 to 10 whose condition in Table 8-4
does not hold, and a check fails exactly where one does not (R149). The checksum of a bank held in canonical form is the
sum modulo 2^32 of every word but the derived area (R2). -/
def Obligations.FailedCheckReturnsTheBank : Prop :=
  (∀ (s : State) (b : BankId) (code : Nat), (s.bank b).state = .checking → (s.bank b.other).state ≠ .checking →
     checkFailure (s.words b) = some code →
     exec .activationCheckEnd s = .next { s with
       store := s.store.setBank b { s.bank b with
         state := .staging, activation := none, checkCode := code, derivedDone := 0 }
       responder := { s.responder with
         fault := s.responder.fault.after .activationFailed s.clock.lineSeconds s.node
           (match b with | .A => 0 | .B => 1) (BitVec.ofNat 16 code) } } ∧
     1 ≤ code ∧ code ≤ 10 ∧ (∃ holds, (code, holds) ∈ checkSteps ∧ holds (s.words b) = false) ∧
     (∀ k holds, (k, holds) ∈ checkSteps → k < code → holds (s.words b) = true) ∧
     ¬stepHolds (s.words b) code ∧ ∀ k, 1 ≤ k → k < code → stepHolds (s.words b) k) ∧
  (∀ (m : WordMem) (code : Nat) (holds : WordMem → Bool), (code, holds) ∈ checkSteps →
     (holds m = true ↔ stepHolds m code)) ∧
  (∀ m : WordMem, checkFailure m = none ↔ ∀ k, 1 ≤ k → k ≤ 10 → stepHolds m k) ∧
  ∀ m : WordMem, wordsWf m → checksum m =
    ((List.range 16384).filter fun o => decide (o < 1536 ∨ 1599 < o)).foldl (fun sum o => sum + wordAt m o) 0

/-! ### Requests -/

/-- STATUS, READ FAULT, READ BANKS and READ UNIT answer DONE with the state as it stands and change nothing but the
Office Port's queues (R138, R144, R174, R180). The fields of the first three lie at the octets of Tables 9-6, 9-5 and
9-8, with the codes of Table 9-9: a FAU or Matcher whose bucket is granted is WRITE_BACK or HOLDING (R19, R86, R91).
READ BANKS with a clear of segment 0 in flight and READ UNIT of the derived area of a CHECKING bank, where the words
move meanwhile, are left to the free values of logs 13 and 14. -/
def Obligations.ReadingRequestsChangeNothing : Prop :=
  ∀ (s : State) (entry : Nat) (f : Frame),
    s.statusFields (statusData s) ∧ s.store.fields (banksData s.store) ∧
      s.responder.fault.fields (faultData s.responder.fault) ∧
    ([Readiness.starting, .waiting, .ready].map Readiness.code = [0, 1, 2] ∧
      [SweepState.idle, .burst, .pause, .waitSlot, .stopping, .startPass].map SweepState.code = [0, 1, 2, 3, 4, 5] ∧
      [SweepMode.single, .continuous].map SweepMode.code = [0, 1] ∧ [BankId.A, .B].map BankId.code = [0, 1] ∧
      [BankState.staging, .scheduled, .checking, .active, .retiring].map BankState.code = [0, 1, 2, 3, 4] ∧
      [FaultKind.none, .writeProtected, .writeNotCleared, .activationFailed, .recordDisplaced, .unknownStation,
        .frameCheck].map FaultKind.code = [0, 1, 2, 3, 4, 5, 6]) ∧
    (s.takes 1 entry f →
      exec .status s = .next { s with office := s.officeAnswered entry f .done (statusData s) }) ∧
    (s.takes 18 entry f →
      exec .readFault s = .next { s with office := s.officeAnswered entry f .done (faultData s.responder.fault) }) ∧
    (s.takes 11 entry f → (∀ c, s.store.clear = some c → c.segment ≠ 0) →
      exec .readBanks s = .next { s with office := s.officeAnswered entry f .done (banksData s.store) }) ∧
    (s.takes 8 entry f →
      let a := argumentsOf f
      let offset := fieldAt a 1 2
      (2 ≤ (octetAt a 0).toNat ∨ offset % 4 ≠ 0 ∨ 16380 < offset →
        exec .readUnit s = .next { s with office := s.officeAnswered entry f .badArgument [] }) ∧
      ∀ b, bankOf (octetAt a 0) = some b → offset % 4 = 0 → offset ≤ 16380 →
        (s.store.clearing b offset = true →
          exec .readUnit s = .next { s with office := s.officeAnswered entry f .busy [] }) ∧
        (s.store.clearing b offset = false → (s.bank b).state ≠ .checking ∨ offset < 1536 ∨ 1599 < offset →
          exec .readUnit s = .next { s with
            office := s.officeAnswered entry f .done
              (octetsOf32 (wordAt (s.words b) offset) ++ octetsOf32 (wordAt (s.words b) (offset + 1)) ++
                octetsOf32 (wordAt (s.words b) (offset + 2)) ++ octetsOf32 (wordAt (s.words b) (offset + 3))) }))

/-- SET TIME replaces line seconds by any value, restarts the phase, loads the length from the trim, makes the clock
SET, hands the trigger with the value set, and answers with the value before and the value set (R132, R133). The
millisecond divider and the trim stay. -/
def Obligations.SetTimeSetsTheClock : Prop :=
  ∀ (s : State) (entry : Nat) (f : Frame), s.takes 2 entry f →
    let v : LineTime := BitVec.ofNat 32 (fieldAt (argumentsOf f) 0 4)
    ∃ t, exec .setTime s = .next t ∧
      t = { s with
        store := t.store, matcher := t.matcher
        clock := { s.clock with
          set := true, lineSeconds := v, phase := 0, length := (10000000 - s.clock.trim).toNat }
        office := s.officeAnswered entry f .done (octetsOf32 s.clock.lineSeconds ++ octetsOf32 v) } ∧
      (∀ b a, s.sweeper.state ≠ .startPass → (s.bank b).state = .scheduled → (s.bank b).activation = some a →
        a.toNat ≤ v.toNat → t.bank b = { s.bank b with state := .checking, derivedDone := 0 }) ∧
      (∀ b, s.sweeper.state = .startPass ∨ (s.bank b).state ≠ .scheduled ∨
        (∃ a, (s.bank b).activation = some a ∧ v.toNat < a.toNat) → t.bank b = s.bank b) ∧
      (s.matcher.readiness = .waiting → s.activeBank.isSome = true →
        t.matcher = { s.matcher with readiness := .ready }) ∧
      (s.matcher.readiness ≠ .waiting ∨ s.activeBank = none → t.matcher = s.matcher)

/-- SET TRIM clamps its signed value to -1000..+1000, writes trim and descriptor, and answers with the trim as set. It
is taken in either clock state and changes no other part of the clock: the second in progress keeps its length, and the
next second boundary loads the new one. The descriptor outlasts both resets, and the power-up reads it (R130, R134). -/
def Obligations.SetTrimClampsAndKeeps : Prop :=
  ∀ (s : State) (entry : Nat) (f : Frame), s.takes 3 entry f →
    let given := (BitVec.ofNat 16 (fieldAt (argumentsOf f) 0 2)).toInt
    let v : Int := if 1000 < given then 1000 else if given < -1000 then -1000 else given
    ∃ t, exec .setTrim s = .next t ∧
      t = { s with
        clock := { s.clock with trim := v, trimDescriptor := BitVec.ofInt 16 v }
        office := s.officeAnswered entry f .done (intToOctets 2 v) } ∧
      (∃ u, exec .secondBoundary t = .next u ∧ (u.clock.length : Int) = 10000000 - v) ∧
      (∃ u, exec .resetLineInput t = .next u ∧ u.clock = t.clock) ∧
      ∀ dram node, ∃ u, exec (.powerUp dram node) t = .next u ∧ u.clock.trim = v ∧
        u.clock.trimDescriptor = BitVec.ofInt 16 v

/-- CLEAR SEGMENT: the first refusal that applies, of BAD_ARGUMENT, BUSY and PROTECTED with its capture of bank and
first offset; else the clear is in flight, its reply entry stays reserved and no word has changed yet (R139, R172,
R179). The completion of a clear: every word of the segment reads as the cleared word, every other word of both banks
as before, no clear is in flight, and the waiting reply is DONE with bank and segment (R137, R140). -/
def Obligations.ClearsAreRefusedTakenAndCompleted : Prop :=
  (∀ (s : State) (entry : Nat) (f : Frame), s.takes 4 entry f →
     let a := argumentsOf f
     let segment := (octetAt a 1).toNat
     (2 ≤ (octetAt a 0).toNat ∨ 15 < segment →
       exec .clearSegment s = .next { s with office := s.officeAnswered entry f .badArgument [] }) ∧
     ∀ b, bankOf (octetAt a 0) = some b → segment ≤ 15 →
       (s.store.clear.isSome = true →
         exec .clearSegment s = .next { s with office := s.officeAnswered entry f .busy [] }) ∧
       (s.store.clear = none → (s.bank b).state ≠ .staging → exec .clearSegment s = .next { s with
         office := s.officeAnswered entry f .isProtected []
         responder := { s.responder with
           fault := s.responder.fault.after .writeProtected s.clock.lineSeconds (frameSource f)
             (match b with | .A => 0 | .B => 1) (BitVec.ofNat 16 (1024 * segment)) } }) ∧
       (s.store.clear = none → (s.bank b).state = .staging → exec .clearSegment s = .next { s with
         office := s.officeReserved entry f
         store := { s.store with clear := some { bank := b, segment := segment, reached := 0, reply := entry } } })) ∧
  ∀ (s : State) (c : Clear) (r : ReplyEntry), s.storesCanonical → s.store.clear = some c →
    s.office.replies[c.reply]? = some r →
    ∃ t, exec .clearCompletion s = .next t ∧
      t = { s with
        store := t.store
        office := { s.office with
          replies := s.office.replies.set c.reply { r with
            state := .ready, status := .done
            data := [match c.bank with | .A => 0 | .B => 1, BitVec.ofNat 8 c.segment] }
          readyReplies := s.office.readyReplies ++ [c.reply] } } ∧
      t.store.clear = none ∧ t.store.pointerBank = s.store.pointerBank ∧
      t.store.pointerOffset = s.store.pointerOffset ∧
      t.bank c.bank = { s.bank c.bank with words := t.words c.bank } ∧ t.bank c.bank.other = s.bank c.bank.other ∧
      ∀ offset, wordAt (t.words c.bank) offset =
        if 1024 * c.segment ≤ offset ∧ offset < 1024 * c.segment + 1024 then 4294967295
        else wordAt (s.words c.bank) offset

/-- WRITE UNIT: the first test of Table 8-1 that applies refuses it, changes no word of either bank and leaves the load
pointer, and tests 2, 3 and 5 attempt their capture with the frame's source node, bank and offset; with none, the four
words read back, every other word is as before, and the load pointer, which the reply carries, names the next unit
(R142). -/
def Obligations.WriteUnitGoesByItsTests : Prop :=
  ∀ (s : State) (entry : Nat) (f : Frame), s.storesCanonical → s.takes 5 entry f →
    let a := argumentsOf f
    let o := fieldAt a 1 2
    let refused := fun (status : Status) (fault : FaultCapture) => exec .writeUnit s = .next { s with
      office := s.officeAnswered entry f status [], responder := { s.responder with fault := fault } }
    (2 ≤ (octetAt a 0).toNat ∨ o % 4 ≠ 0 ∨ 16380 < o → refused .badArgument s.responder.fault) ∧
    ∀ b, bankOf (octetAt a 0) = some b → o % 4 = 0 → o ≤ 16380 →
      s.unitRefusals f b o refused ∧
        (s.unitWritable b o → ∃ u, exec .writeUnit s = .next u ∧ s.unitWritten u entry f b o 3)

/-- WRITE NEXT: BAD_ARGUMENT at offset 16384; else refused or written at the load pointer as a WRITE UNIT there would be
by tests 2 to 5, and on DONE the pointer advances by 4 within its bank. It stays a multiple of 4 up to 16384. A power-up
sets it to bank A at offset 0 and a restart leaves it (R143). SET POINTER sets the pointer in every bank state, or is
refused BAD_ARGUMENT (R144). -/
def Obligations.WriteNextAndSetPointer : Prop :=
  ∀ (s : State) (entry : Nat) (f : Frame), s.storesCanonical →
    let a := argumentsOf f
    let o := s.store.pointerOffset
    let next := s.store.pointerBank
    let refused := fun (status : Status) (fault : FaultCapture) => exec .writeNext s = .next { s with
      office := s.officeAnswered entry f status [], responder := { s.responder with fault := fault } }
    (s.takes 6 entry f →
      (o = 16384 → refused .badArgument s.responder.fault) ∧
      (o ≠ 16384 → s.unitRefusals f next o refused ∧
        (s.unitWritable next o → ∃ u, exec .writeNext s = .next u ∧ s.unitWritten u entry f next o 0))) ∧
    (o % 4 = 0 → o ≤ 16384 → ∀ u, exec .writeNext s = .next u →
      u.store.pointerOffset % 4 = 0 ∧ u.store.pointerOffset ≤ 16384) ∧
    (∀ dram node, ∃ u, exec (.powerUp dram node) s = .next u ∧ u.store.pointerBank = .A ∧ u.store.pointerOffset = 0) ∧
    (∃ u, exec .resetLineInput s = .next u ∧ u.store.pointerBank = next ∧ u.store.pointerOffset = o) ∧
    (∀ b, s.takes 7 entry f → bankOf (octetAt a 0) = some b → fieldAt a 1 2 % 4 = 0 → fieldAt a 1 2 ≤ 16384 →
      exec .setPointer s = .next { s with
        store := { s.store with pointerBank := b, pointerOffset := fieldAt a 1 2 }
        office := s.officeAnswered entry f .done
          ([match b with | .A => 0 | .B => (1 : Octet)] ++ natToOctets 2 (fieldAt a 1 2)) }) ∧
    (s.takes 7 entry f → 2 ≤ (octetAt a 0).toNat ∨ fieldAt a 1 2 % 4 ≠ 0 ∨ 16384 < fieldAt a 1 2 →
      exec .setPointer s = .next { s with office := s.officeAnswered entry f .badArgument [] })

/-- SCHEDULE: the first refusal that applies, of BAD_ARGUMENT, BAD_STATE, IN_USE and BUSY; else the bank has the
activation time and code 0 and is SCHEDULED, or CHECKING at once where the clock is SET, no start pass runs and the time
is not above line seconds; the reply names bank, time and state. UNSCHEDULE returns the SCHEDULED bank to STAGING, or is
refused BUSY or BAD_STATE (R147, R148). -/
def Obligations.ScheduleAndUnschedule : Prop :=
  ∀ (s : State) (entry : Nat) (f : Frame), s.banksSound →
    let a := argumentsOf f
    let time : LineTime := BitVec.ofNat 32 (fieldAt a 1 4)
    let refused := fun (status : Status) =>
      exec .schedule s = .next { s with office := s.officeAnswered entry f status [] }
    let bankOctet := fun (b : BankId) => match b with | .A => (0 : Octet) | .B => 1
    let idle := fun (k : BankId) => (s.bank k).state ≠ .scheduled ∧ (s.bank k).state ≠ .checking
    let now := s.clock.set = true ∧ s.sweeper.state ≠ .startPass ∧ time.toNat ≤ s.clock.lineSeconds.toNat
    (s.takes 9 entry f → 2 ≤ (octetAt a 0).toNat → refused .badArgument) ∧
    (∀ b, s.takes 9 entry f → bankOf (octetAt a 0) = some b →
      ((s.bank b).state = .active → refused .badState) ∧
      ((s.bank b).state = .retiring → refused .inUse) ∧
      ((s.bank b).state = .scheduled ∨ (s.bank b).state = .checking → refused .busy) ∧
      ((s.bank b).state = .staging →
        (¬idle b.other → refused .busy) ∧
        (idle b.other → (∃ c, s.store.clear = some c ∧ c.bank = b) → refused .busy) ∧
        (idle b.other → (∀ c, s.store.clear = some c → c.bank ≠ b) →
          (¬now → exec .schedule s = .next { s with
            store := s.store.setBank b
              { s.bank b with state := .scheduled, activation := some time, checkCode := 0 }
            office := s.officeAnswered entry f .done ([bankOctet b] ++ octetsOf32 time ++ [1]) }) ∧
          (now → exec .schedule s = .next { s with
            store := s.store.setBank b
              { s.bank b with state := .checking, activation := some time, checkCode := 0, derivedDone := 0 }
            office := s.officeAnswered entry f .done ([bankOctet b] ++ octetsOf32 time ++ [2]) })))) ∧
    (s.takes 10 entry f →
      (∀ b, (s.bank b).state = .scheduled → exec .unschedule s = .next { s with
        store := s.store.setBank b { s.bank b with state := .staging, activation := none }
        office := s.officeAnswered entry f .done [bankOctet b] }) ∧
      (∀ b, (s.bank b).state = .checking →
        exec .unschedule s = .next { s with office := s.officeAnswered entry f .busy [] }) ∧
      (idle .A → idle .B → exec .unschedule s = .next { s with office := s.officeAnswered entry f .badState [] }))

/-- SWEEP CONFIG in IDLE sets mode, pause (0 taken as 1) and pointer, or is refused BAD_ARGUMENT and changes nothing;
SWEEP START in IDLE begins a burst at the pointer with a fresh round; either is BUSY in every other state (R111, R112;
where a read of the bucket is still to be made, the burst's request waits by the model's choice, log 30). SWEEP STOP
goes by Table 6-2: DONE in every state but START_PASS, where it is BUSY; BURST becomes STOPPING, PAUSE and WAIT_SLOT
become IDLE at once, the slot request withdrawn and no slot kept, so that a Matcher that waits is granted one that is
free (R22); IDLE and STOPPING stay; the pointer stays where it is (R113). -/
def Obligations.SweepRequestsSteerTheSweeper : Prop :=
  (∀ (s : State) (entry : Nat) (f : Frame),
    let a := argumentsOf f
    let bucket := fieldAt a 3 2
    let pause : BitVec 16 := if fieldAt a 1 2 = 0 then 1 else BitVec.ofNat 16 (fieldAt a 1 2)
    (s.takes 12 entry f →
      (s.sweeper.state ≠ .idle →
        exec .sweepConfig s = .next { s with office := s.officeAnswered entry f .busy [] }) ∧
      (s.sweeper.state = .idle → 2 ≤ (octetAt a 0).toNat ∨ s.bucketCount ≤ bucket →
        exec .sweepConfig s = .next { s with office := s.officeAnswered entry f .badArgument [] }) ∧
      ∀ mode, s.sweeper.state = .idle → bucket < s.bucketCount →
        (octetAt a 0 = 0 ∧ mode = .single ∨ octetAt a 0 = 1 ∧ mode = .continuous) →
        exec .sweepConfig s = .next { s with
          sweeper := { s.sweeper with mode := mode, pause := pause, pointer := bucket }
          office := s.officeAnswered entry f .done ([octetAt a 0] ++ octetsOf16 pause ++ natToOctets 2 bucket) }) ∧
    (s.takes 13 entry f →
      (s.sweeper.state ≠ .idle →
        exec .sweepStart s = .next { s with office := s.officeAnswered entry f .busy [] }) ∧
      (s.sweeper.state = .idle → ∃ t, exec .sweepStart s = .next t ∧
        t = { s with
          sweeper := { s.sweeper with round := 0, passComplete := false, state := .burst, burstDone := 0 }
          holds := { s.holds with sweeper := t.holds.sweeper }
          office := s.officeAnswered entry f .done [] } ∧
        t.holds.sweeper = s.holdGiven s.sweeper.pointer))) ∧
  ∀ (s : State) (entry : Nat) (f : Frame), s.takes 14 entry f →
    let becomes := fun (w : SweepState) => exec .sweepStop s = .next { s with
      sweeper := { s.sweeper with state := w }, office := s.officeAnswered entry f .done [] }
    (s.sweeper.state = .idle → becomes .idle) ∧ (s.sweeper.state = .burst → becomes .stopping) ∧
    (s.sweeper.state = .stopping → becomes .stopping) ∧ (s.sweeper.state = .pause → becomes .idle) ∧
    (s.sweeper.state = .startPass →
      exec .sweepStop s = .next { s with office := s.officeAnswered entry f .busy [] }) ∧
    (s.sweeper.state = .waitSlot → exec .sweepStop s = .next { s with
      sweeper := { s.sweeper with state := .idle }, slots := s.sweeperReturned
      office := s.officeAnswered entry f .done [] })

/-- READ TOKEN: BAD_ARGUMENT for a token of 0, NOT_READY while the Matcher is STARTING; where the token's bucket is free
the record as it stands, its fields at the octets of Table 9-7, or NOT_FOUND; where it is held the request waits in
work. The read that waited is made once the bucket is free, before the grant to a waiting holder, if there is one, and
ends the request. No record changes (R74, R79, R175). -/
def Obligations.ReadTokenReadsWithoutAHold : Prop :=
  (∀ (s : State) (entry : Nat) (f : Frame), s.takes 15 entry f →
    let token : Token := BitVec.ofNat 64 (fieldAt (argumentsOf f) 0 8)
    let b := s.bucketOf token
    let answered := fun (status : Status) (data : List Octet) =>
      exec .readToken s = .next { s with office := s.officeAnswered entry f status data }
    (token = 0 → answered .badArgument []) ∧
    (token ≠ 0 → s.matcher.readiness = .starting → answered .notReady []) ∧
    (token ≠ 0 → s.matcher.readiness ≠ .starting → s.holds.heldIn b = false →
      (s.lookup b token = none → answered .notFound []) ∧
      ∀ w r, s.lookup b token = some (w, r) →
        answered .done (tokenRecordData r) ∧ r.fields (tokenRecordData r) ∧ r.token = token) ∧
    (token ≠ 0 → s.matcher.readiness ≠ .starting → s.holds.heldIn b = true →
      exec .readToken s = .next { s with
        office := s.officeReserved entry f
        responder := { s.responder with inWork := some (.readToken token entry) } })) ∧
  ∀ (s : State) (token : Token) (entry : Nat) (e : ReplyEntry),
    s.responder.inWork = some (.readToken token entry) → s.office.replies[entry]? = some e →
    let b := s.bucketOf token
    (s.holds.heldIn b = true → exec .tokenRecordRead s = .next s) ∧
    (s.holds.heldIn b = false → ∃ t, exec .tokenRecordRead s = .next t ∧
      t = { s with
        holds := t.holds
        office := { s.office with
          replies := s.office.replies.set entry { e with
            state := .ready
            status := if (s.lookup b token).isSome then .done else .notFound
            data := match s.lookup b token with | some (_, r) => tokenRecordData r | none => [] }
          readyReplies := s.office.readyReplies ++ [entry] }
        responder := { s.responder with inWork := none } } ∧
      (s.holds.fau = .waiting b → t.holds = { s.holds with fau := s.heldNow b }) ∧
      (s.holds.fau ≠ .waiting b → s.holds.matcher = .waiting b → t.holds = { s.holds with matcher := s.heldNow b }) ∧
      (s.holds.fau ≠ .waiting b → s.holds.matcher ≠ .waiting b → s.holds.sweeper = .waiting b →
        t.holds = { s.holds with sweeper := s.heldNow b }) ∧
      (s.holds.waitedIn b = false → t.holds = s.holds))

/-- SET CHANNELS replaces the mask, with channel 0 always enabled, and answers with it. CLEAR FAULT sets the record to
NONE and zeros. ASSIST EXIT is handed to the Matcher with its reply entry reserved. RESTART is answered DONE and a
restart is pending on that entry. A payload that fails the Responder's checks is refused BAD_ARGUMENT with its code and
tag and changes nothing else. While a restart is pending or a request is in work, or with no frame queued or no reply
entry free, no request is taken: every request command leaves the state as it is (R170 to R172, R176, R177, R180, R182;
that such a command may be given at all is the model's choice, log 1). -/
def Obligations.OtherRequestsActAsTheirRules : Prop :=
  ∀ (s : State) (entry : Nat) (f : Frame),
    (s.takes 17 entry f →
      let mask : BitVec 4 := (octetAt (argumentsOf f) 0).setWidth 4 ||| 1
      exec .setChannels s = .next { s with
        fau := { s.fau with channels := mask }, office := s.officeAnswered entry f .done [mask.setWidth 8] }) ∧
    (s.takes 19 entry f → exec .clearFault s = .next { s with
      responder := { s.responder with fault :=
        { kind := .none, lineTime := 0, source := 0, detailHigh := 0, detailLow := 0, since := 0 } }
      office := s.officeAnswered entry f .done [] }) ∧
    (s.takes 16 entry f → exec .assistExit s = .next { s with
      responder := { s.responder with inWork := some (.assistHanded
        (BitVec.ofNat 64 (fieldAt (argumentsOf f) 0 8)) (octetAt (argumentsOf f) 8) (octetAt (argumentsOf f) 9) entry) }
      office := s.officeReserved entry f }) ∧
    (s.takes 20 entry f → ∃ t, exec .restart s = .next t ∧
      t = { s with
        responder := { s.responder with restartPending := some entry }
        office := s.officeAnswered entry f .done [] }) ∧
    (s.responder.inWork = none → s.responder.restartPending = none → s.office.intake.head? = some f →
      freePlace ReplyEntry.state s.office.replies = some entry → requestKnown (framePayload f) = false →
      exec .unknownRequest s = .next { s with office := s.officeAnswered entry f .badArgument [] }) ∧
    ∀ c ∈ requestCommands, s.responder.inWork ≠ none ∨ s.responder.restartPending ≠ none ∨ s.office.intake = [] ∨
        freePlace ReplyEntry.state s.office.replies = none →
      exec c s = .next s
end

