-- ==== Sys2Proof/Laws/Octets.lean ====
section
/-!
SUPPORT. Numbers as octets and back: what a field of the built data reads as (R168).
-/

namespace Sys2Proof.Machine

open Sys2Proof

@[simp] theorem length_natToOctets (n v : Nat) : (natToOctets n v).length = n := by simp [natToOctets]

/-- The number in some octets and one more. -/
theorem octetsToNat_append (a : List Octet) (o : Octet) : octetsToNat (a ++ [o]) = octetsToNat a * 256 + o.toNat := by
  simp [octetsToNat]

/-- A number reads back from its octets, as far as they hold it. -/
theorem octetsToNat_natToOctets (n v : Nat) : octetsToNat (natToOctets n v) = v % 256 ^ n := by
  induction n generalizing v with
  | zero => simp [natToOctets, octetsToNat, Nat.mod_one]
  | succ n ih =>
    have split : natToOctets (n + 1) v = natToOctets n (v / 256) ++ [BitVec.ofNat 8 v] := by
      simp only [natToOctets, List.range_succ, List.map_append, List.map_cons, List.map_nil]
      congr 1
      · refine List.map_congr_left fun i hi => ?_
        have hi : i < n := by simpa using hi
        rw [Nat.div_div_eq_div_mul, show n + 1 - 1 - i = n - 1 - i + 1 by omega, Nat.pow_succ, Nat.mul_comm]
      · simp
    rw [split, octetsToNat_append, ih, Nat.pow_succ, Nat.mul_comm (256 ^ n), Nat.mod_mul]
    simp
    ring

/-- A field that begins behind some octets is read in what follows them. -/
theorem fieldAt_append {a b : List Octet} {k : Nat} (h : a.length = k) (i n : Nat) :
    fieldAt (a ++ b) (k + i) n = fieldAt b i n := by
  subst h
  rw [fieldAt, ← List.drop_drop, List.drop_left, fieldAt]

/-- The field at the front of what was built holds the number put there. -/
theorem fieldAt_front (n v : Nat) (b : List Octet) : fieldAt (natToOctets n v ++ b) 0 n = v % 256 ^ n := by
  rw [fieldAt, List.drop_zero, List.take_left' (length_natToOctets n v), octetsToNat_natToOctets]

/-- The flags of a settlement lie in its bits (Table 9-4). -/
theorem flagBits_toNat (f : SettleFlags) : flagBits f.toNat f := by
  obtain ⟨a, b, c, d, e, g, h, i, j⟩ := f
  revert a b c d e g h i j
  unfold flagBits
  decide

/-- The flags of a verdict lie in its bits (Table 9-3). -/
theorem verdictBits_toNat (f : VerdictFlags) : verdictBits f.toNat f := by
  obtain ⟨a, b, c, d⟩ := f
  revert a b c d
  unfold verdictBits
  decide

end Sys2Proof.Machine
end

