-- ==== Sys2Proof/Laws/Sparse.lean ====
section
/-!
SUPPORT. Laws of the sparse stores: a read after a write, and that every write keeps the canonical form.
-/

namespace Sys2Proof.Machine

open Sys2Proof

variable {α : Type}

/-! ### Reading after a write -/

@[simp] theorem sparseGet_set_self (m : List (Nat × α)) (k : Nat) (x : α) : sparseGet (sparseSet m k x) k = some x := by
  induction m with
  | nil => simp [sparseSet, sparseGet]
  | cons e m ih =>
    simp only [sparseSet]
    split
    · simp [sparseGet]
    · split
      · simp [sparseGet]
      · simp [sparseGet, ih, Ne.symm ‹¬k = e.1›]

theorem sparseGet_set_ne (m : List (Nat × α)) {k j : Nat} (x : α) (h : j ≠ k) :
    sparseGet (sparseSet m k x) j = sparseGet m j := by
  induction m with
  | nil => simp [sparseSet, sparseGet, Ne.symm h]
  | cons e m ih =>
    simp only [sparseSet]
    split
    · simp [sparseGet, Ne.symm h]
    · split
      · rename_i hk
        simp [sparseGet, Ne.symm h, ← hk]
      · simp [sparseGet, ih]

theorem sparseGet_erase_ne (m : List (Nat × α)) {k j : Nat} (h : j ≠ k) :
    sparseGet (sparseErase m k) j = sparseGet m j := by
  induction m with
  | nil => rfl
  | cons e m ih =>
    simp only [sparseErase]
    split
    · rename_i hk
      simp [sparseGet, hk, Ne.symm h]
    · simp [sparseGet, ih]

theorem sparseGet_none_of_lt (m : List (Nat × α)) (k : Nat) (h : ∀ e ∈ m, k < e.1) : sparseGet m k = none := by
  induction m with
  | nil => rfl
  | cons e m ih =>
    have := h e (by simp)
    simp [sparseGet, show e.1 ≠ k by omega, ih fun d hd => h d (by simp [hd])]

theorem sparseRising_cons {e : Nat × α} {m : List (Nat × α)} :
    sparseRising (e :: m) ↔ (∀ d ∈ m, e.1 < d.1) ∧ sparseRising m := by
  simp [sparseRising]

theorem sparseGet_erase_self (m : List (Nat × α)) (k : Nat) (h : sparseRising m) : sparseGet (sparseErase m k) k = none := by
  induction m with
  | nil => rfl
  | cons e m ih =>
    rw [sparseRising_cons] at h
    simp only [sparseErase]
    split
    · rename_i hk
      exact sparseGet_none_of_lt m k fun d hd => hk ▸ h.1 d hd
    · simp [sparseGet, *]

theorem sparseGet_put_self (m : List (Nat × α)) (k : Nat) (x : Option α) (h : sparseRising m) :
    sparseGet (sparsePut m k x) k = x := by
  cases x with
  | none => exact sparseGet_erase_self m k h
  | some x => simp [sparsePut]

theorem sparseGet_put_ne (m : List (Nat × α)) {k j : Nat} (x : Option α) (h : j ≠ k) :
    sparseGet (sparsePut m k x) j = sparseGet m j := by
  cases x with
  | none => exact sparseGet_erase_ne m h
  | some x => exact sparseGet_set_ne m x h

theorem sparseGet_eq_some_iff (m : List (Nat × α)) (h : sparseRising m) (k : Nat) (x : α) :
    sparseGet m k = some x ↔ (k, x) ∈ m := by
  induction m with
  | nil => simp [sparseGet]
  | cons e m ih =>
    rw [sparseRising_cons] at h
    obtain ⟨n, y⟩ := e
    simp only [sparseGet, List.mem_cons, Prod.mk.injEq]
    by_cases hk : n = k
    · subst hk
      have : (n, x) ∉ m := fun hm => by have := h.1 _ hm; simp at this
      simp [this, eq_comm]
    · simp [hk, ih h.2, show ¬k = n by omega]

/-! ### The canonical form is kept -/

theorem mem_sparseSet {m : List (Nat × α)} {k : Nat} {x : α} {d : Nat × α} (h : d ∈ sparseSet m k x) :
    d = (k, x) ∨ d ∈ m := by
  induction m with
  | nil => simpa [sparseSet] using h
  | cons e m ih =>
    simp only [sparseSet] at h
    split at h
    · simpa using h
    · split at h
      · simp only [List.mem_cons] at h ⊢
        tauto
      · simp only [List.mem_cons] at h ⊢
        rcases h with h | h
        · tauto
        · rcases ih h with h | h <;> tauto

theorem mem_sparseErase {m : List (Nat × α)} {k : Nat} {d : Nat × α} (h : d ∈ sparseErase m k) : d ∈ m := by
  induction m with
  | nil => simp [sparseErase] at h
  | cons e m ih =>
    simp only [sparseErase] at h
    split at h
    · simp [h]
    · simp only [List.mem_cons] at h ⊢
      exact h.imp_right ih

@[simp] theorem sparseRising_nil : sparseRising ([] : List (Nat × α)) := by simp [sparseRising]

theorem sparseRising_set (m : List (Nat × α)) (k : Nat) (x : α) (h : sparseRising m) : sparseRising (sparseSet m k x) := by
  induction m with
  | nil => simp [sparseSet, sparseRising]
  | cons e m ih =>
    have hc := sparseRising_cons.1 h
    simp only [sparseSet]
    split
    · refine sparseRising_cons.2 ⟨fun d hd => ?_, h⟩
      simp only [List.mem_cons] at hd
      rcases hd with rfl | hd
      · assumption
      · have := hc.1 d hd
        omega
    · split
      · rename_i hk
        exact sparseRising_cons.2 ⟨fun d hd => hk ▸ hc.1 d hd, hc.2⟩
      · refine sparseRising_cons.2 ⟨fun d hd => ?_, ih hc.2⟩
        rcases mem_sparseSet hd with rfl | hd
        · simp only
          omega
        · exact hc.1 d hd

theorem sparseRising_erase (m : List (Nat × α)) (k : Nat) (h : sparseRising m) : sparseRising (sparseErase m k) := by
  induction m with
  | nil => exact h
  | cons e m ih =>
    have hc := sparseRising_cons.1 h
    simp only [sparseErase]
    split
    · exact hc.2
    · exact sparseRising_cons.2 ⟨fun d hd => hc.1 d (mem_sparseErase hd), ih hc.2⟩

theorem sparseRising_put (m : List (Nat × α)) (k : Nat) (x : Option α) (h : sparseRising m) :
    sparseRising (sparsePut m k x) := by
  cases x with
  | none => exact sparseRising_erase m k h
  | some x => exact sparseRising_set m k x h

theorem sparseRising_filter (m : List (Nat × α)) (p : Nat × α → Bool) (h : sparseRising m) : sparseRising (m.filter p) := by
  induction m with
  | nil => exact h
  | cons e m ih =>
    have hc := sparseRising_cons.1 h
    simp only [List.filter_cons]
    split
    · exact sparseRising_cons.2 ⟨fun d hd => hc.1 d (List.mem_of_mem_filter hd), ih hc.2⟩
    · exact ih hc.2

/-- Filtering by the number alone leaves the kept numbers and empties the others. -/
theorem sparseGet_filter (m : List (Nat × α)) (p : Nat → Bool) (k : Nat) :
    sparseGet (m.filter fun e => p e.1) k = if p k then sparseGet m k else none := by
  induction m with
  | nil => simp [sparseGet]
  | cons e m ih =>
    by_cases hp : p e.1 <;> by_cases hk : e.1 = k
    · subst hk
      simp [sparseGet, hp]
    · simp [sparseGet, hp, hk, ih]
    · subst hk
      simp [hp, ih]
    · simp [sparseGet, hp, hk, ih]

/-! ### The words of a bank -/

theorem wordAt_writeWord_self (m : WordMem) (k : Nat) (w : Word) (h : sparseRising m) : wordAt (writeWord m k w) k = w := by
  unfold wordAt writeWord
  split
  · simp [sparseGet_erase_self m k h, *]
  · simp

theorem wordAt_writeWord_ne (m : WordMem) {k j : Nat} (w : Word) (h : j ≠ k) : wordAt (writeWord m k w) j = wordAt m j := by
  unfold wordAt writeWord
  split
  · rw [sparseGet_erase_ne m h]
  · rw [sparseGet_set_ne m w h]

theorem wordsWf_writeWord (m : WordMem) (k : Nat) (w : Word) (h : wordsWf m) : wordsWf (writeWord m k w) := by
  unfold writeWord
  split
  · exact ⟨sparseRising_erase m k h.1, fun e he => h.2 e (mem_sparseErase he)⟩
  · refine ⟨sparseRising_set m k w h.1, fun e he => ?_⟩
    rcases mem_sparseSet he with rfl | he
    · assumption
    · exact h.2 e he

theorem wordsWf_writeWords (ws : List Word) : ∀ (m : WordMem) (k : Nat), wordsWf m → wordsWf (writeWords m k ws) := by
  induction ws with
  | nil => exact fun m k h => h
  | cons w ws ih => exact fun m k h => ih _ _ (wordsWf_writeWord m k w h)

/-- A run of words reads back as written, and every word outside it as before. -/
theorem wordAt_writeWords (ws : List Word) : ∀ (m : WordMem) (k j : Nat), wordsWf m →
    wordAt (writeWords m k ws) j = if k ≤ j then (ws[j - k]?).getD (wordAt m j) else wordAt m j := by
  induction ws with
  | nil => intro m k j h; simp [writeWords]
  | cons w ws ih =>
    intro m k j h
    rw [writeWords, ih _ _ _ (wordsWf_writeWord m k w h)]
    rcases Nat.lt_trichotomy j k with hj | rfl | hj
    · simp [show ¬k ≤ j by omega, show ¬k + 1 ≤ j by omega, wordAt_writeWord_ne m w (show j ≠ k by omega)]
    · simp [wordAt_writeWord_self m j w h.1]
    · have hs : j - k = (j - (k + 1)) + 1 := by omega
      simp [show k ≤ j by omega, show k + 1 ≤ j by omega, hs, wordAt_writeWord_ne m w (show j ≠ k by omega)]

theorem wordsWf_filter (m : WordMem) (p : Nat × Word → Bool) (h : wordsWf m) : wordsWf (m.filter p) :=
  ⟨sparseRising_filter m p h.1, fun e he => h.2 e (List.mem_of_mem_filter he)⟩

theorem wordsWf_clearRange (m : WordMem) (lo hi : Nat) (h : wordsWf m) : wordsWf (clearRange m lo hi) :=
  wordsWf_filter m _ h

/-- A cleared range reads as the cleared word, and every word outside it as before. -/
theorem wordAt_clearRange (m : WordMem) (lo hi j : Nat) :
    wordAt (clearRange m lo hi) j = if lo ≤ j ∧ j < hi then Config.clearedWord else wordAt m j := by
  have := sparseGet_filter m (fun n => !(lo ≤ n && n < hi)) j
  unfold wordAt clearRange
  rw [this]
  by_cases hj : lo ≤ j ∧ j < hi
  · simp [hj]
  · rw [if_neg hj, if_pos (by simp; omega)]

/-- A unit broken off in its clearing has each word kept or cleared, keeps one where it was no clear unit, and every
word outside it is as before (R141). -/
theorem wordAt_clearPart (m : WordMem) (offset : Nat) (mask : BitVec 4) :
    (∀ j, ¬(offset ≤ j ∧ j < offset + 4) → wordAt (clearPart m offset mask) j = wordAt m j) ∧
      (∀ j, wordAt (clearPart m offset mask) j = wordAt m j ∨
        wordAt (clearPart m offset mask) j = Config.clearedWord) ∧
      ((∃ i < 4, wordAt m (offset + i) ≠ Config.clearedWord) →
        ∃ i < 4, wordAt (clearPart m offset mask) (offset + i) ≠ Config.clearedWord) := by
  have get := sparseGet_filter m fun n => !(offset ≤ n && n < offset + 4 && mask.getLsbD (n - offset))
  simp only [clearPart]
  split
  · exact ⟨fun _ _ => rfl, fun _ => .inl rfl, id⟩
  · rename_i hu
    refine ⟨fun j hj => ?_, fun j => ?_, fun _ => ?_⟩
    · unfold wordAt
      rw [get, if_pos]
      by_cases h : offset ≤ j
      · simp [show ¬j < offset + 4 from fun h' => hj ⟨h, h'⟩]
      · simp [h]
    · unfold wordAt
      rw [get]
      split
      · exact .inl rfl
      · exact .inr rfl
    · by_contra h
      exact hu (List.all_eq_true.2 fun i hi => beq_iff_eq.2 <| by_contra fun hne => h ⟨i, by simpa using hi, hne⟩)

end Sys2Proof.Machine
end

