-- ==== Sys2Proof/Laws/State.lean ====
section
/-!
SUPPORT. What each shared operation leaves as it is, one lemma for each operation, and the field lemmas of the updates
that name a bank or a holder.
-/

namespace Sys2Proof.Machine

open Sys2Proof

/-! ### Banks and holds by name -/

@[simp] theorem TableStore.bank_setBank_self (t : TableStore) (b : BankId) (v : Bank) : (t.setBank b v).bank b = v := by
  cases b <;> rfl

@[simp] theorem TableStore.bank_setBank_other (t : TableStore) (b : BankId) (v : Bank) :
    (t.setBank b v).bank b.other = t.bank b.other := by
  cases b <;> rfl

theorem TableStore.bank_setBank_ne (t : TableStore) {b c : BankId} (v : Bank) (h : c ≠ b) :
    (t.setBank b v).bank c = t.bank c := by
  cases b <;> cases c <;> first | rfl | exact absurd rfl h

@[simp] theorem TableStore.setBank_pointer (t : TableStore) (b : BankId) (v : Bank) :
    (t.setBank b v).pointerBank = t.pointerBank ∧ (t.setBank b v).pointerOffset = t.pointerOffset ∧
      (t.setBank b v).clear = t.clear := by
  cases b <;> exact ⟨rfl, rfl, rfl⟩

@[simp] theorem State.bank_setBank_self (s : State) (b : BankId) (v : Bank) : (s.setBank b v).bank b = v :=
  TableStore.bank_setBank_self _ b v

@[simp] theorem State.bank_setBank_other (s : State) (b : BankId) (v : Bank) :
    (s.setBank b v).bank b.other = s.bank b.other :=
  TableStore.bank_setBank_other _ b v

theorem State.bank_setBank_ne (s : State) {b c : BankId} (v : Bank) (h : c ≠ b) : (s.setBank b v).bank c = s.bank c :=
  TableStore.bank_setBank_ne _ v h

@[simp] theorem Holds.get_set_self (h : Holds) (who : Holder) (v : Hold) : (h.set who v).get who = v := by
  cases who <;> rfl

theorem Holds.get_set_ne (h : Holds) {who other : Holder} (v : Hold) (hn : other ≠ who) :
    (h.set who v).get other = h.get other := by
  cases who <;> cases other <;> first | rfl | exact absurd rfl hn

/-! ### What the operations leave as it is -/

@[simp] theorem State.setBank_frame (s : State) (b : BankId) (v : Bank) :
    (s.setBank b v).clock = s.clock ∧ (s.setBank b v).table = s.table ∧ (s.setBank b v).dramWritten = s.dramWritten ∧
    (s.setBank b v).bucketCount = s.bucketCount ∧ (s.setBank b v).node = s.node ∧ (s.setBank b v).holds = s.holds ∧
    (s.setBank b v).matcher = s.matcher ∧ (s.setBank b v).slots = s.slots ∧ (s.setBank b v).fau = s.fau ∧
    (s.setBank b v).sweeper = s.sweeper ∧ (s.setBank b v).station = s.station ∧ (s.setBank b v).office = s.office ∧
    (s.setBank b v).responder = s.responder ∧ (s.setBank b v).freeCount = s.freeCount ∧
    (s.setBank b v).pending = s.pending := by
  simp [State.setBank]

@[simp] theorem State.makeRef_frame (s : State) (b : BankId) :
    (s.makeRef b).clock = s.clock ∧ (s.makeRef b).table = s.table ∧ (s.makeRef b).dramWritten = s.dramWritten ∧
    (s.makeRef b).bucketCount = s.bucketCount ∧ (s.makeRef b).node = s.node ∧ (s.makeRef b).holds = s.holds ∧
    (s.makeRef b).matcher = s.matcher ∧ (s.makeRef b).slots = s.slots ∧ (s.makeRef b).fau = s.fau ∧
    (s.makeRef b).sweeper = s.sweeper ∧ (s.makeRef b).station = s.station ∧ (s.makeRef b).office = s.office ∧
    (s.makeRef b).responder = s.responder ∧ (s.makeRef b).freeCount = s.freeCount ∧
    (s.makeRef b).pending = s.pending := by
  simp [State.makeRef]

@[simp] theorem State.releaseRef_frame (s : State) (b : BankId) :
    (s.releaseRef b).clock = s.clock ∧ (s.releaseRef b).table = s.table ∧
    (s.releaseRef b).dramWritten = s.dramWritten ∧ (s.releaseRef b).bucketCount = s.bucketCount ∧
    (s.releaseRef b).node = s.node ∧ (s.releaseRef b).holds = s.holds ∧ (s.releaseRef b).matcher = s.matcher ∧
    (s.releaseRef b).slots = s.slots ∧ (s.releaseRef b).fau = s.fau ∧ (s.releaseRef b).sweeper = s.sweeper ∧
    (s.releaseRef b).station = s.station ∧ (s.releaseRef b).office = s.office ∧
    (s.releaseRef b).responder = s.responder ∧ (s.releaseRef b).freeCount = s.freeCount ∧
    (s.releaseRef b).pending = s.pending := by
  simp [State.releaseRef]

@[simp] theorem State.releaseRecent_frame (s : State) (p : Option RecentPart) :
    (s.releaseRecent p).clock = s.clock ∧ (s.releaseRecent p).table = s.table ∧
    (s.releaseRecent p).dramWritten = s.dramWritten ∧ (s.releaseRecent p).bucketCount = s.bucketCount ∧
    (s.releaseRecent p).node = s.node ∧ (s.releaseRecent p).holds = s.holds ∧
    (s.releaseRecent p).matcher = s.matcher ∧ (s.releaseRecent p).slots = s.slots ∧ (s.releaseRecent p).fau = s.fau ∧
    (s.releaseRecent p).sweeper = s.sweeper ∧ (s.releaseRecent p).station = s.station ∧
    (s.releaseRecent p).office = s.office ∧ (s.releaseRecent p).responder = s.responder ∧
    (s.releaseRecent p).freeCount = s.freeCount ∧ (s.releaseRecent p).pending = s.pending := by
  cases p <;> simp [State.releaseRecent]

@[simp] theorem State.capture_frame (s : State) (k : FaultKind) (o : Octet) (x y : Nat) :
    (s.capture k o x y).clock = s.clock ∧ (s.capture k o x y).store = s.store ∧ (s.capture k o x y).table = s.table ∧
    (s.capture k o x y).dramWritten = s.dramWritten ∧ (s.capture k o x y).bucketCount = s.bucketCount ∧
    (s.capture k o x y).node = s.node ∧ (s.capture k o x y).holds = s.holds ∧
    (s.capture k o x y).matcher = s.matcher ∧ (s.capture k o x y).slots = s.slots ∧ (s.capture k o x y).fau = s.fau ∧
    (s.capture k o x y).sweeper = s.sweeper ∧ (s.capture k o x y).station = s.station ∧
    (s.capture k o x y).office = s.office ∧ (s.capture k o x y).freeCount = s.freeCount ∧
    (s.capture k o x y).pending = s.pending := by
  simp [State.capture]

@[simp] theorem State.count_frame (s : State) (f : Counters → Counters) :
    (s.count f).clock = s.clock ∧ (s.count f).store = s.store ∧ (s.count f).table = s.table ∧
    (s.count f).dramWritten = s.dramWritten ∧ (s.count f).bucketCount = s.bucketCount ∧ (s.count f).node = s.node ∧
    (s.count f).holds = s.holds ∧ (s.count f).matcher = s.matcher ∧ (s.count f).slots = s.slots ∧
    (s.count f).fau = s.fau ∧ (s.count f).sweeper = s.sweeper ∧ (s.count f).station = s.station ∧
    (s.count f).office = s.office ∧ (s.count f).freeCount = s.freeCount ∧ (s.count f).pending = s.pending := by
  simp [State.count]

@[simp] theorem State.discard_frame (s : State) :
    s.discard.clock = s.clock ∧ s.discard.store = s.store ∧ s.discard.table = s.table ∧
    s.discard.dramWritten = s.dramWritten ∧ s.discard.bucketCount = s.bucketCount ∧ s.discard.node = s.node ∧
    s.discard.holds = s.holds ∧ s.discard.matcher = s.matcher ∧ s.discard.slots = s.slots ∧ s.discard.fau = s.fau ∧
    s.discard.sweeper = s.sweeper ∧ s.discard.station = s.station ∧ s.discard.office = s.office ∧
    s.discard.freeCount = s.freeCount ∧ s.discard.pending = s.pending := by
  simp [State.discard]

@[simp] theorem State.putWay_frame (s : State) (b w : Nat) (r : Option TokenRecord) :
    (s.putWay b w r).clock = s.clock ∧ (s.putWay b w r).store = s.store ∧
    (s.putWay b w r).dramWritten = s.dramWritten ∧ (s.putWay b w r).bucketCount = s.bucketCount ∧
    (s.putWay b w r).node = s.node ∧ (s.putWay b w r).holds = s.holds ∧ (s.putWay b w r).matcher = s.matcher ∧
    (s.putWay b w r).slots = s.slots ∧ (s.putWay b w r).fau = s.fau ∧ (s.putWay b w r).sweeper = s.sweeper ∧
    (s.putWay b w r).station = s.station ∧ (s.putWay b w r).office = s.office ∧
    (s.putWay b w r).responder = s.responder ∧ (s.putWay b w r).freeCount = s.freeCount ∧
    (s.putWay b w r).pending = s.pending := by
  simp [State.putWay]

@[simp] theorem State.emptyBucket_frame (s : State) (b : Nat) :
    (s.emptyBucket b).clock = s.clock ∧ (s.emptyBucket b).store = s.store ∧
    (s.emptyBucket b).dramWritten = s.dramWritten ∧ (s.emptyBucket b).bucketCount = s.bucketCount ∧
    (s.emptyBucket b).node = s.node ∧ (s.emptyBucket b).holds = s.holds ∧ (s.emptyBucket b).matcher = s.matcher ∧
    (s.emptyBucket b).slots = s.slots ∧ (s.emptyBucket b).fau = s.fau ∧ (s.emptyBucket b).sweeper = s.sweeper ∧
    (s.emptyBucket b).station = s.station ∧ (s.emptyBucket b).office = s.office ∧
    (s.emptyBucket b).responder = s.responder ∧ (s.emptyBucket b).freeCount = s.freeCount ∧
    (s.emptyBucket b).pending = s.pending := by
  simp [State.emptyBucket]

@[simp] theorem State.setHold_frame (s : State) (who : Holder) (v : Hold) :
    (s.setHold who v).clock = s.clock ∧ (s.setHold who v).store = s.store ∧ (s.setHold who v).table = s.table ∧
    (s.setHold who v).dramWritten = s.dramWritten ∧ (s.setHold who v).bucketCount = s.bucketCount ∧
    (s.setHold who v).node = s.node ∧ (s.setHold who v).matcher = s.matcher ∧ (s.setHold who v).slots = s.slots ∧
    (s.setHold who v).fau = s.fau ∧ (s.setHold who v).sweeper = s.sweeper ∧ (s.setHold who v).station = s.station ∧
    (s.setHold who v).office = s.office ∧ (s.setHold who v).responder = s.responder ∧
    (s.setHold who v).freeCount = s.freeCount ∧ (s.setHold who v).pending = s.pending := by
  simp [State.setHold]

@[simp] theorem State.requestHold_frame (s : State) (who : Holder) (b : Nat) :
    (s.requestHold who b).clock = s.clock ∧ (s.requestHold who b).store = s.store ∧
    (s.requestHold who b).table = s.table ∧ (s.requestHold who b).dramWritten = s.dramWritten ∧
    (s.requestHold who b).bucketCount = s.bucketCount ∧ (s.requestHold who b).node = s.node ∧
    (s.requestHold who b).matcher = s.matcher ∧ (s.requestHold who b).slots = s.slots ∧
    (s.requestHold who b).fau = s.fau ∧ (s.requestHold who b).sweeper = s.sweeper ∧
    (s.requestHold who b).station = s.station ∧ (s.requestHold who b).office = s.office ∧
    (s.requestHold who b).responder = s.responder ∧ (s.requestHold who b).freeCount = s.freeCount ∧
    (s.requestHold who b).pending = s.pending := by
  simp [State.requestHold]

@[simp] theorem State.grantNext_frame (s : State) (b : Nat) :
    (s.grantNext b).clock = s.clock ∧ (s.grantNext b).store = s.store ∧ (s.grantNext b).table = s.table ∧
    (s.grantNext b).dramWritten = s.dramWritten ∧ (s.grantNext b).bucketCount = s.bucketCount ∧
    (s.grantNext b).node = s.node ∧ (s.grantNext b).matcher = s.matcher ∧ (s.grantNext b).slots = s.slots ∧
    (s.grantNext b).fau = s.fau ∧ (s.grantNext b).sweeper = s.sweeper ∧ (s.grantNext b).station = s.station ∧
    (s.grantNext b).office = s.office ∧ (s.grantNext b).responder = s.responder ∧
    (s.grantNext b).freeCount = s.freeCount ∧ (s.grantNext b).pending = s.pending := by
  unfold State.grantNext; split_ifs <;> simp

@[simp] theorem State.releaseHold_frame (s : State) (who : Holder) (b : Nat) :
    (s.releaseHold who b).clock = s.clock ∧ (s.releaseHold who b).store = s.store ∧
    (s.releaseHold who b).table = s.table ∧ (s.releaseHold who b).dramWritten = s.dramWritten ∧
    (s.releaseHold who b).bucketCount = s.bucketCount ∧ (s.releaseHold who b).node = s.node ∧
    (s.releaseHold who b).matcher = s.matcher ∧ (s.releaseHold who b).slots = s.slots ∧
    (s.releaseHold who b).fau = s.fau ∧ (s.releaseHold who b).sweeper = s.sweeper ∧
    (s.releaseHold who b).station = s.station ∧ (s.releaseHold who b).office = s.office ∧
    (s.releaseHold who b).responder = s.responder ∧ (s.releaseHold who b).freeCount = s.freeCount ∧
    (s.releaseHold who b).pending = s.pending := by
  simp only [State.releaseHold]; split_ifs <;> simp

@[simp] theorem State.notice_frame (s : State) (b : Nat) (t : Token) :
    (s.notice b t).clock = s.clock ∧ (s.notice b t).store = s.store ∧ (s.notice b t).table = s.table ∧
    (s.notice b t).dramWritten = s.dramWritten ∧ (s.notice b t).bucketCount = s.bucketCount ∧
    (s.notice b t).node = s.node ∧ (s.notice b t).slots = s.slots ∧ (s.notice b t).fau = s.fau ∧
    (s.notice b t).sweeper = s.sweeper ∧ (s.notice b t).station = s.station ∧ (s.notice b t).office = s.office ∧
    (s.notice b t).responder = s.responder ∧ (s.notice b t).freeCount = s.freeCount ∧
    (s.notice b t).pending = s.pending := by
  unfold State.notice; (repeat' split) <;> simp

@[simp] theorem State.grantMatcherSlot_frame (s : State) :
    s.grantMatcherSlot.clock = s.clock ∧ s.grantMatcherSlot.store = s.store ∧ s.grantMatcherSlot.table = s.table ∧
    s.grantMatcherSlot.dramWritten = s.dramWritten ∧ s.grantMatcherSlot.bucketCount = s.bucketCount ∧
    s.grantMatcherSlot.node = s.node ∧ s.grantMatcherSlot.holds = s.holds ∧ s.grantMatcherSlot.matcher = s.matcher ∧
    s.grantMatcherSlot.fau = s.fau ∧ s.grantMatcherSlot.sweeper = s.sweeper ∧ s.grantMatcherSlot.station = s.station ∧
    s.grantMatcherSlot.office = s.office ∧ s.grantMatcherSlot.responder = s.responder ∧
    s.grantMatcherSlot.freeCount = s.freeCount ∧ s.grantMatcherSlot.pending = s.pending := by
  unfold State.grantMatcherSlot; split_ifs <;> simp

@[simp] theorem State.grantSweeperSlot_frame (s : State) :
    s.grantSweeperSlot.clock = s.clock ∧ s.grantSweeperSlot.store = s.store ∧ s.grantSweeperSlot.table = s.table ∧
    s.grantSweeperSlot.dramWritten = s.dramWritten ∧ s.grantSweeperSlot.bucketCount = s.bucketCount ∧
    s.grantSweeperSlot.node = s.node ∧ s.grantSweeperSlot.holds = s.holds ∧ s.grantSweeperSlot.matcher = s.matcher ∧
    s.grantSweeperSlot.fau = s.fau ∧ s.grantSweeperSlot.sweeper = s.sweeper ∧ s.grantSweeperSlot.station = s.station ∧
    s.grantSweeperSlot.office = s.office ∧ s.grantSweeperSlot.responder = s.responder ∧
    s.grantSweeperSlot.freeCount = s.freeCount ∧ s.grantSweeperSlot.pending = s.pending := by
  unfold State.grantSweeperSlot; split_ifs <;> simp

@[simp] theorem State.arbitrate_frame (s : State) :
    s.arbitrate.clock = s.clock ∧ s.arbitrate.store = s.store ∧ s.arbitrate.table = s.table ∧
    s.arbitrate.dramWritten = s.dramWritten ∧ s.arbitrate.bucketCount = s.bucketCount ∧ s.arbitrate.node = s.node ∧
    s.arbitrate.holds = s.holds ∧ s.arbitrate.matcher = s.matcher ∧ s.arbitrate.fau = s.fau ∧
    s.arbitrate.sweeper = s.sweeper ∧ s.arbitrate.station = s.station ∧ s.arbitrate.office = s.office ∧
    s.arbitrate.responder = s.responder ∧ s.arbitrate.freeCount = s.freeCount ∧ s.arbitrate.pending = s.pending := by
  simp [State.arbitrate]

@[simp] theorem State.requestMatcherSlot_frame (s : State) :
    s.requestMatcherSlot.clock = s.clock ∧ s.requestMatcherSlot.store = s.store ∧
    s.requestMatcherSlot.table = s.table ∧ s.requestMatcherSlot.dramWritten = s.dramWritten ∧
    s.requestMatcherSlot.bucketCount = s.bucketCount ∧ s.requestMatcherSlot.node = s.node ∧
    s.requestMatcherSlot.holds = s.holds ∧ s.requestMatcherSlot.matcher = s.matcher ∧
    s.requestMatcherSlot.fau = s.fau ∧ s.requestMatcherSlot.sweeper = s.sweeper ∧
    s.requestMatcherSlot.station = s.station ∧ s.requestMatcherSlot.office = s.office ∧
    s.requestMatcherSlot.responder = s.responder ∧ s.requestMatcherSlot.freeCount = s.freeCount ∧
    s.requestMatcherSlot.pending = s.pending := by
  simp [State.requestMatcherSlot]

@[simp] theorem State.returnMatcherSlots_frame (s : State) :
    s.returnMatcherSlots.clock = s.clock ∧ s.returnMatcherSlots.store = s.store ∧
    s.returnMatcherSlots.table = s.table ∧ s.returnMatcherSlots.dramWritten = s.dramWritten ∧
    s.returnMatcherSlots.bucketCount = s.bucketCount ∧ s.returnMatcherSlots.node = s.node ∧
    s.returnMatcherSlots.holds = s.holds ∧ s.returnMatcherSlots.matcher = s.matcher ∧
    s.returnMatcherSlots.fau = s.fau ∧ s.returnMatcherSlots.sweeper = s.sweeper ∧
    s.returnMatcherSlots.station = s.station ∧ s.returnMatcherSlots.office = s.office ∧
    s.returnMatcherSlots.responder = s.responder ∧ s.returnMatcherSlots.freeCount = s.freeCount ∧
    s.returnMatcherSlots.pending = s.pending := by
  simp [State.returnMatcherSlots]

@[simp] theorem State.requestSweeperSlot_frame (s : State) :
    s.requestSweeperSlot.clock = s.clock ∧ s.requestSweeperSlot.store = s.store ∧
    s.requestSweeperSlot.table = s.table ∧ s.requestSweeperSlot.dramWritten = s.dramWritten ∧
    s.requestSweeperSlot.bucketCount = s.bucketCount ∧ s.requestSweeperSlot.node = s.node ∧
    s.requestSweeperSlot.holds = s.holds ∧ s.requestSweeperSlot.matcher = s.matcher ∧
    s.requestSweeperSlot.fau = s.fau ∧ s.requestSweeperSlot.sweeper = s.sweeper ∧
    s.requestSweeperSlot.station = s.station ∧ s.requestSweeperSlot.office = s.office ∧
    s.requestSweeperSlot.responder = s.responder ∧ s.requestSweeperSlot.freeCount = s.freeCount ∧
    s.requestSweeperSlot.pending = s.pending := by
  simp [State.requestSweeperSlot]

@[simp] theorem State.returnSweeperSlot_frame (s : State) :
    s.returnSweeperSlot.clock = s.clock ∧ s.returnSweeperSlot.store = s.store ∧ s.returnSweeperSlot.table = s.table ∧
    s.returnSweeperSlot.dramWritten = s.dramWritten ∧ s.returnSweeperSlot.bucketCount = s.bucketCount ∧
    s.returnSweeperSlot.node = s.node ∧ s.returnSweeperSlot.holds = s.holds ∧
    s.returnSweeperSlot.matcher = s.matcher ∧ s.returnSweeperSlot.fau = s.fau ∧
    s.returnSweeperSlot.sweeper = s.sweeper ∧ s.returnSweeperSlot.station = s.station ∧
    s.returnSweeperSlot.office = s.office ∧ s.returnSweeperSlot.responder = s.responder ∧
    s.returnSweeperSlot.freeCount = s.freeCount ∧ s.returnSweeperSlot.pending = s.pending := by
  simp [State.returnSweeperSlot]

@[simp] theorem State.submit_frame (s : State) (j : Job) :
    (s.submit j).clock = s.clock ∧ (s.submit j).store = s.store ∧ (s.submit j).table = s.table ∧
    (s.submit j).dramWritten = s.dramWritten ∧ (s.submit j).bucketCount = s.bucketCount ∧ (s.submit j).node = s.node ∧
    (s.submit j).holds = s.holds ∧ (s.submit j).matcher = s.matcher ∧ (s.submit j).slots = s.slots ∧
    (s.submit j).sweeper = s.sweeper ∧ (s.submit j).station = s.station ∧ (s.submit j).office = s.office ∧
    (s.submit j).responder = s.responder ∧ (s.submit j).freeCount = s.freeCount ∧ (s.submit j).pending = s.pending := by
  simp [State.submit]

@[simp] theorem State.submitMatcher_frame (s : State) (j : Job) :
    (s.submitMatcher j).clock = s.clock ∧ (s.submitMatcher j).store = s.store ∧ (s.submitMatcher j).table = s.table ∧
    (s.submitMatcher j).dramWritten = s.dramWritten ∧ (s.submitMatcher j).bucketCount = s.bucketCount ∧
    (s.submitMatcher j).node = s.node ∧ (s.submitMatcher j).holds = s.holds ∧
    (s.submitMatcher j).matcher = s.matcher ∧ (s.submitMatcher j).sweeper = s.sweeper ∧
    (s.submitMatcher j).station = s.station ∧ (s.submitMatcher j).office = s.office ∧
    (s.submitMatcher j).responder = s.responder ∧ (s.submitMatcher j).freeCount = s.freeCount ∧
    (s.submitMatcher j).pending = s.pending := by
  simp [State.submitMatcher]

@[simp] theorem State.submitSweeper_frame (s : State) (j : Job) :
    (s.submitSweeper j).clock = s.clock ∧ (s.submitSweeper j).store = s.store ∧ (s.submitSweeper j).table = s.table ∧
    (s.submitSweeper j).dramWritten = s.dramWritten ∧ (s.submitSweeper j).bucketCount = s.bucketCount ∧
    (s.submitSweeper j).node = s.node ∧ (s.submitSweeper j).holds = s.holds ∧
    (s.submitSweeper j).matcher = s.matcher ∧ (s.submitSweeper j).sweeper = s.sweeper ∧
    (s.submitSweeper j).station = s.station ∧ (s.submitSweeper j).office = s.office ∧
    (s.submitSweeper j).responder = s.responder ∧ (s.submitSweeper j).freeCount = s.freeCount ∧
    (s.submitSweeper j).pending = s.pending := by
  simp [State.submitSweeper]

@[simp] theorem State.setEntry_frame (s : State) (i p : Nat) (f : VerdictEntry → VerdictEntry) :
    (s.setEntry i p f).clock = s.clock ∧ (s.setEntry i p f).store = s.store ∧ (s.setEntry i p f).table = s.table ∧
    (s.setEntry i p f).dramWritten = s.dramWritten ∧ (s.setEntry i p f).bucketCount = s.bucketCount ∧
    (s.setEntry i p f).node = s.node ∧ (s.setEntry i p f).holds = s.holds ∧ (s.setEntry i p f).matcher = s.matcher ∧
    (s.setEntry i p f).slots = s.slots ∧ (s.setEntry i p f).fau = s.fau ∧ (s.setEntry i p f).sweeper = s.sweeper ∧
    (s.setEntry i p f).office = s.office ∧ (s.setEntry i p f).responder = s.responder ∧
    (s.setEntry i p f).freeCount = s.freeCount ∧ (s.setEntry i p f).pending = s.pending := by
  unfold State.setEntry; split <;> simp

@[simp] theorem State.setVerdict_frame (s : State) (h : Handling) (e : VerdictEntry) :
    (s.setVerdict h e).clock = s.clock ∧ (s.setVerdict h e).store = s.store ∧ (s.setVerdict h e).table = s.table ∧
    (s.setVerdict h e).dramWritten = s.dramWritten ∧ (s.setVerdict h e).bucketCount = s.bucketCount ∧
    (s.setVerdict h e).node = s.node ∧ (s.setVerdict h e).holds = s.holds ∧ (s.setVerdict h e).matcher = s.matcher ∧
    (s.setVerdict h e).slots = s.slots ∧ (s.setVerdict h e).fau = s.fau ∧ (s.setVerdict h e).sweeper = s.sweeper ∧
    (s.setVerdict h e).office = s.office ∧ (s.setVerdict h e).responder = s.responder ∧
    (s.setVerdict h e).freeCount = s.freeCount ∧ (s.setVerdict h e).pending = s.pending := by
  unfold State.setVerdict; split <;> simp

@[simp] theorem State.fillReply_frame (s : State) (i : Nat) (x : Status) (d : List Octet) :
    (s.fillReply i x d).clock = s.clock ∧ (s.fillReply i x d).store = s.store ∧ (s.fillReply i x d).table = s.table ∧
    (s.fillReply i x d).dramWritten = s.dramWritten ∧ (s.fillReply i x d).bucketCount = s.bucketCount ∧
    (s.fillReply i x d).node = s.node ∧ (s.fillReply i x d).holds = s.holds ∧
    (s.fillReply i x d).matcher = s.matcher ∧ (s.fillReply i x d).slots = s.slots ∧ (s.fillReply i x d).fau = s.fau ∧
    (s.fillReply i x d).sweeper = s.sweeper ∧ (s.fillReply i x d).station = s.station ∧
    (s.fillReply i x d).responder = s.responder ∧ (s.fillReply i x d).freeCount = s.freeCount ∧
    (s.fillReply i x d).pending = s.pending := by
  simp [State.fillReply]

@[simp] theorem State.joinStationIntake_frame (s : State) (f : Frame) :
    (s.joinStationIntake f).clock = s.clock ∧ (s.joinStationIntake f).store = s.store ∧
    (s.joinStationIntake f).table = s.table ∧ (s.joinStationIntake f).dramWritten = s.dramWritten ∧
    (s.joinStationIntake f).bucketCount = s.bucketCount ∧ (s.joinStationIntake f).node = s.node ∧
    (s.joinStationIntake f).holds = s.holds ∧ (s.joinStationIntake f).matcher = s.matcher ∧
    (s.joinStationIntake f).slots = s.slots ∧ (s.joinStationIntake f).fau = s.fau ∧
    (s.joinStationIntake f).sweeper = s.sweeper ∧ (s.joinStationIntake f).office = s.office ∧
    (s.joinStationIntake f).freeCount = s.freeCount ∧ (s.joinStationIntake f).pending = s.pending := by
  unfold State.joinStationIntake; split_ifs <;> simp

@[simp] theorem State.joinOfficeIntake_frame (s : State) (f : Frame) :
    (s.joinOfficeIntake f).clock = s.clock ∧ (s.joinOfficeIntake f).store = s.store ∧
    (s.joinOfficeIntake f).table = s.table ∧ (s.joinOfficeIntake f).dramWritten = s.dramWritten ∧
    (s.joinOfficeIntake f).bucketCount = s.bucketCount ∧ (s.joinOfficeIntake f).node = s.node ∧
    (s.joinOfficeIntake f).holds = s.holds ∧ (s.joinOfficeIntake f).matcher = s.matcher ∧
    (s.joinOfficeIntake f).slots = s.slots ∧ (s.joinOfficeIntake f).fau = s.fau ∧
    (s.joinOfficeIntake f).sweeper = s.sweeper ∧ (s.joinOfficeIntake f).station = s.station ∧
    (s.joinOfficeIntake f).freeCount = s.freeCount ∧ (s.joinOfficeIntake f).pending = s.pending := by
  unfold State.joinOfficeIntake; split_ifs <;> simp

@[simp] theorem State.joinPassUp_frame (s : State) (f : Frame) :
    (s.joinPassUp f).clock = s.clock ∧ (s.joinPassUp f).store = s.store ∧ (s.joinPassUp f).table = s.table ∧
    (s.joinPassUp f).dramWritten = s.dramWritten ∧ (s.joinPassUp f).bucketCount = s.bucketCount ∧
    (s.joinPassUp f).node = s.node ∧ (s.joinPassUp f).holds = s.holds ∧ (s.joinPassUp f).matcher = s.matcher ∧
    (s.joinPassUp f).slots = s.slots ∧ (s.joinPassUp f).fau = s.fau ∧ (s.joinPassUp f).sweeper = s.sweeper ∧
    (s.joinPassUp f).freeCount = s.freeCount ∧ (s.joinPassUp f).pending = s.pending := by
  unfold State.joinPassUp; split_ifs <;> simp

@[simp] theorem State.joinPassDown_frame (s : State) (f : Frame) :
    (s.joinPassDown f).clock = s.clock ∧ (s.joinPassDown f).store = s.store ∧ (s.joinPassDown f).table = s.table ∧
    (s.joinPassDown f).dramWritten = s.dramWritten ∧ (s.joinPassDown f).bucketCount = s.bucketCount ∧
    (s.joinPassDown f).node = s.node ∧ (s.joinPassDown f).holds = s.holds ∧ (s.joinPassDown f).matcher = s.matcher ∧
    (s.joinPassDown f).slots = s.slots ∧ (s.joinPassDown f).fau = s.fau ∧ (s.joinPassDown f).sweeper = s.sweeper ∧
    (s.joinPassDown f).freeCount = s.freeCount ∧ (s.joinPassDown f).pending = s.pending := by
  unfold State.joinPassDown; split_ifs <;> simp

@[simp] theorem State.testSchedule_frame (s : State) (n : LineTime) :
    (s.testSchedule n).clock = s.clock ∧ (s.testSchedule n).table = s.table ∧
    (s.testSchedule n).dramWritten = s.dramWritten ∧ (s.testSchedule n).bucketCount = s.bucketCount ∧
    (s.testSchedule n).node = s.node ∧ (s.testSchedule n).holds = s.holds ∧ (s.testSchedule n).matcher = s.matcher ∧
    (s.testSchedule n).slots = s.slots ∧ (s.testSchedule n).fau = s.fau ∧ (s.testSchedule n).sweeper = s.sweeper ∧
    (s.testSchedule n).station = s.station ∧ (s.testSchedule n).office = s.office ∧
    (s.testSchedule n).responder = s.responder ∧ (s.testSchedule n).freeCount = s.freeCount ∧
    (s.testSchedule n).pending = s.pending := by
  unfold State.testSchedule; split_ifs <;> simp

@[simp] theorem State.wakeMatcher_frame (s : State) :
    s.wakeMatcher.clock = s.clock ∧ s.wakeMatcher.store = s.store ∧ s.wakeMatcher.table = s.table ∧
    s.wakeMatcher.dramWritten = s.dramWritten ∧ s.wakeMatcher.bucketCount = s.bucketCount ∧
    s.wakeMatcher.node = s.node ∧ s.wakeMatcher.holds = s.holds ∧ s.wakeMatcher.slots = s.slots ∧
    s.wakeMatcher.fau = s.fau ∧ s.wakeMatcher.sweeper = s.sweeper ∧ s.wakeMatcher.station = s.station ∧
    s.wakeMatcher.office = s.office ∧ s.wakeMatcher.responder = s.responder ∧ s.wakeMatcher.freeCount = s.freeCount ∧
    s.wakeMatcher.pending = s.pending := by
  unfold State.wakeMatcher; split_ifs <;> simp

@[simp] theorem State.timeTrigger_frame (s : State) (n : LineTime) :
    (s.timeTrigger n).clock = s.clock ∧ (s.timeTrigger n).table = s.table ∧
    (s.timeTrigger n).dramWritten = s.dramWritten ∧ (s.timeTrigger n).bucketCount = s.bucketCount ∧
    (s.timeTrigger n).node = s.node ∧ (s.timeTrigger n).holds = s.holds ∧ (s.timeTrigger n).slots = s.slots ∧
    (s.timeTrigger n).fau = s.fau ∧ (s.timeTrigger n).sweeper = s.sweeper ∧ (s.timeTrigger n).station = s.station ∧
    (s.timeTrigger n).office = s.office ∧ (s.timeTrigger n).responder = s.responder ∧
    (s.timeTrigger n).freeCount = s.freeCount ∧ (s.timeTrigger n).pending = s.pending := by
  simp [State.timeTrigger]

@[simp] theorem State.secondBoundary_frame (s : State) :
    s.secondBoundary.table = s.table ∧ s.secondBoundary.dramWritten = s.dramWritten ∧
    s.secondBoundary.bucketCount = s.bucketCount ∧ s.secondBoundary.node = s.node ∧ s.secondBoundary.holds = s.holds ∧
    s.secondBoundary.slots = s.slots ∧ s.secondBoundary.fau = s.fau ∧ s.secondBoundary.sweeper = s.sweeper ∧
    s.secondBoundary.station = s.station ∧ s.secondBoundary.office = s.office ∧
    s.secondBoundary.responder = s.responder ∧ s.secondBoundary.freeCount = s.freeCount ∧
    s.secondBoundary.pending = s.pending := by
  simp only [State.secondBoundary]; split_ifs <;> simp

@[simp] theorem State.millisecondTick_frame (s : State) :
    s.millisecondTick.store = s.store ∧ s.millisecondTick.table = s.table ∧
    s.millisecondTick.dramWritten = s.dramWritten ∧ s.millisecondTick.bucketCount = s.bucketCount ∧
    s.millisecondTick.node = s.node ∧ s.millisecondTick.holds = s.holds ∧ s.millisecondTick.matcher = s.matcher ∧
    s.millisecondTick.slots = s.slots ∧ s.millisecondTick.fau = s.fau ∧ s.millisecondTick.station = s.station ∧
    s.millisecondTick.office = s.office ∧ s.millisecondTick.responder = s.responder ∧
    s.millisecondTick.freeCount = s.freeCount ∧ s.millisecondTick.pending = s.pending := by
  simp only [State.millisecondTick]; split_ifs <;> simp

@[simp] theorem State.referencePeriod_frame (s : State) :
    s.referencePeriod.table = s.table ∧ s.referencePeriod.dramWritten = s.dramWritten ∧
    s.referencePeriod.bucketCount = s.bucketCount ∧ s.referencePeriod.node = s.node ∧
    s.referencePeriod.holds = s.holds ∧ s.referencePeriod.slots = s.slots ∧ s.referencePeriod.fau = s.fau ∧
    s.referencePeriod.station = s.station ∧ s.referencePeriod.office = s.office ∧
    s.referencePeriod.responder = s.responder ∧ s.referencePeriod.freeCount = s.freeCount ∧
    s.referencePeriod.pending = s.pending := by
  simp only [State.referencePeriod]; split_ifs <;> simp

@[simp] theorem State.endStartPass_frame (s : State) :
    s.endStartPass.clock = s.clock ∧ s.endStartPass.table = s.table ∧ s.endStartPass.dramWritten = s.dramWritten ∧
    s.endStartPass.bucketCount = s.bucketCount ∧ s.endStartPass.node = s.node ∧ s.endStartPass.holds = s.holds ∧
    s.endStartPass.fau = s.fau ∧ s.endStartPass.station = s.station ∧ s.endStartPass.office = s.office ∧
    s.endStartPass.responder = s.responder ∧ s.endStartPass.freeCount = s.freeCount ∧
    s.endStartPass.pending = s.pending := by
  simp [State.endStartPass]

@[simp] theorem State.advanceClear_frame (s : State) :
    s.advanceClear.clock = s.clock ∧ s.advanceClear.table = s.table ∧ s.advanceClear.dramWritten = s.dramWritten ∧
    s.advanceClear.bucketCount = s.bucketCount ∧ s.advanceClear.node = s.node ∧ s.advanceClear.holds = s.holds ∧
    s.advanceClear.matcher = s.matcher ∧ s.advanceClear.slots = s.slots ∧ s.advanceClear.fau = s.fau ∧
    s.advanceClear.sweeper = s.sweeper ∧ s.advanceClear.station = s.station ∧ s.advanceClear.office = s.office ∧
    s.advanceClear.responder = s.responder ∧ s.advanceClear.pending = s.pending := by
  unfold State.advanceClear; split <;> simp

@[simp] theorem State.breakClear_frame (s : State) :
    s.breakClear.clock = s.clock ∧ s.breakClear.table = s.table ∧ s.breakClear.dramWritten = s.dramWritten ∧
    s.breakClear.bucketCount = s.bucketCount ∧ s.breakClear.node = s.node ∧ s.breakClear.holds = s.holds ∧
    s.breakClear.matcher = s.matcher ∧ s.breakClear.slots = s.slots ∧ s.breakClear.fau = s.fau ∧
    s.breakClear.sweeper = s.sweeper ∧ s.breakClear.station = s.station ∧ s.breakClear.office = s.office ∧
    s.breakClear.responder = s.responder ∧ s.breakClear.pending = s.pending := by
  simp only [State.breakClear]; split <;> simp

@[simp] theorem State.advanceCheck_frame (s : State) (b : BankId) :
    (s.advanceCheck b).clock = s.clock ∧ (s.advanceCheck b).table = s.table ∧
    (s.advanceCheck b).dramWritten = s.dramWritten ∧ (s.advanceCheck b).bucketCount = s.bucketCount ∧
    (s.advanceCheck b).node = s.node ∧ (s.advanceCheck b).holds = s.holds ∧ (s.advanceCheck b).matcher = s.matcher ∧
    (s.advanceCheck b).slots = s.slots ∧ (s.advanceCheck b).fau = s.fau ∧ (s.advanceCheck b).sweeper = s.sweeper ∧
    (s.advanceCheck b).station = s.station ∧ (s.advanceCheck b).office = s.office ∧
    (s.advanceCheck b).responder = s.responder ∧ (s.advanceCheck b).pending = s.pending := by
  simp only [State.advanceCheck]; split_ifs <;> simp

@[simp] theorem State.stopStore_frame (s : State) :
    s.stopStore.clock = s.clock ∧ s.stopStore.table = s.table ∧ s.stopStore.dramWritten = s.dramWritten ∧
    s.stopStore.bucketCount = s.bucketCount ∧ s.stopStore.node = s.node ∧ s.stopStore.holds = s.holds ∧
    s.stopStore.matcher = s.matcher ∧ s.stopStore.slots = s.slots ∧ s.stopStore.fau = s.fau ∧
    s.stopStore.sweeper = s.sweeper ∧ s.stopStore.station = s.station ∧ s.stopStore.office = s.office ∧
    s.stopStore.responder = s.responder ∧ s.stopStore.pending = s.pending := by
  simp [State.stopStore]

end Sys2Proof.Machine
end

