-- ==== Sys2Proof/Laws/Ops.lean ====
section
/-!
SUPPORT. What the shared operations do, said once for each: ways and lookups, references, holds, job slots, verdict and
reply entries, the taking of a request, fault capture, and the time trigger.
-/

namespace Sys2Proof.Machine

open Sys2Proof

/-! ### Ways and lookups (R66, R67) -/

@[simp] theorem State.way_putWay_some (s : State) (b w : Nat) (r : TokenRecord) :
    (s.putWay b w (some r)).way b w = some r := by
  simp [State.way, State.putWay, sparsePut]

theorem State.way_putWay (s : State) (b w : Nat) (r : Option TokenRecord) (h : sparseRising s.table) :
    (s.putWay b w r).way b w = r := by
  simp [State.way, State.putWay, sparseGet_put_self _ _ _ h]

theorem State.putWay_get_ne (s : State) (b w : Nat) (r : Option TokenRecord) {k : Nat} (h : k ≠ wayKey b w) :
    sparseGet (s.putWay b w r).table k = sparseGet s.table k := by
  simp [State.putWay, sparseGet_put_ne _ _ h]

theorem State.way_putWay_ne (s : State) (b w : Nat) (r : Option TokenRecord) {v : Nat} (h : v ≠ w) :
    (s.putWay b w r).way b v = s.way b v :=
  s.putWay_get_ne b w r (by unfold wayKey; omega)

theorem State.way_congr {s t : State} (h : s.table = t.table) (b w : Nat) : s.way b w = t.way b w := by
  simp [State.way, h]

/-- A lookup names a way of the bucket, and its record has the token. -/
theorem State.lookup_some {s : State} {b : Nat} {t : Token} {w : Nat} {r : TokenRecord}
    (h : s.lookup b t = some (w, r)) : w < 8 ∧ s.way b w = some r ∧ r.token = t := by
  obtain ⟨v, hv, h⟩ := List.exists_of_findSome?_eq_some h
  split at h
  · split_ifs at h with ht
    cases h
    exact ⟨by simpa [Config.ways] using hv, ‹_›, ht⟩
  · cases h

/-- The FAU's lookup names a way whose record has the token and a closing part with the tag. -/
theorem State.lookupClosing_some {s : State} {b : Nat} {t : Token} {tag : BitVec 16} {w : Nat} {r : TokenRecord}
    {c : ClosingPart} (h : s.lookupClosing b t tag = some (w, r, c)) :
    w < 8 ∧ s.way b w = some r ∧ r.token = t ∧ r.closing = some c ∧ c.tag = tag := by
  obtain ⟨v, hv, h⟩ := List.exists_of_findSome?_eq_some h
  split at h
  · split at h
    · split_ifs at h with ht
      cases h
      exact ⟨by simpa [Config.ways] using hv, ‹_›, ht.1, ‹_›, ht.2⟩
    · cases h
  · cases h

/-! ### References (R152, R153) -/

@[simp] theorem State.bank_makeRef_self (s : State) (b : BankId) :
    (s.makeRef b).bank b = { s.bank b with refs := (s.bank b).refs + 1 } := by
  simp [State.makeRef]

@[simp] theorem State.bank_makeRef_other (s : State) (b : BankId) : (s.makeRef b).bank b.other = s.bank b.other := by
  simp [State.makeRef]

theorem State.bank_makeRef (s : State) (b k : BankId) :
    (s.makeRef b).bank k = { s.bank k with refs := (s.bank k).refs + if b = k then 1 else 0 } := by
  cases b <;> cases k <;> rfl

/-- A release takes 1 off the count, and may make a RETIRING bank STAGING; it changes nothing else of the bank. -/
theorem State.bank_releaseRef_self (s : State) (b : BankId) :
    ((s.releaseRef b).bank b).refs = (s.bank b).refs - 1 ∧ ((s.releaseRef b).bank b).words = (s.bank b).words ∧
      ((s.releaseRef b).bank b).activation = (s.bank b).activation ∧
      ((s.releaseRef b).bank b).checkCode = (s.bank b).checkCode ∧
      ((s.releaseRef b).bank b).derivedDone = (s.bank b).derivedDone := by
  simp [State.releaseRef]

@[simp] theorem State.bank_releaseRef_other (s : State) (b : BankId) :
    (s.releaseRef b).bank b.other = s.bank b.other := by
  simp [State.releaseRef]

@[simp] theorem State.words_makeRef (s : State) (b k : BankId) : (s.makeRef b).words k = s.words k := by
  cases b <;> cases k <;> rfl

@[simp] theorem State.words_releaseRef (s : State) (b k : BankId) : (s.releaseRef b).words k = s.words k := by
  cases b <;> cases k <;> rfl

@[simp] theorem State.words_releaseRecent (s : State) (p : Option RecentPart) (k : BankId) :
    (s.releaseRecent p).words k = s.words k := by
  cases p <;> simp [State.releaseRecent]

/-! ### Holds (R73, R74, R79) -/

/-- A request is granted at once where the bucket is free and nothing waits for it, else it waits. -/
@[simp] theorem State.holds_requestHold (s : State) (who : Holder) (b : Nat) :
    (s.requestHold who b).holds = s.holds.set who (s.holdGiven b) := by
  unfold State.requestHold State.holdGiven State.setHold
  cases s.holds.heldIn b <;> cases s.holds.waitedIn b <;> cases s.readWaits b <;> rfl

/-- The grant goes to the FAU, else the Matcher, else the Sweeper, of those that wait for the bucket. -/
theorem State.holds_grantNext (s : State) (b : Nat) :
    (s.grantNext b).holds =
      if s.holds.fau = .waiting b then { s.holds with fau := s.heldNow b }
      else if s.holds.matcher = .waiting b then { s.holds with matcher := s.heldNow b }
      else if s.holds.sweeper = .waiting b then { s.holds with sweeper := s.heldNow b }
      else s.holds := by
  unfold State.grantNext
  split_ifs <;> rfl

/-- A release ends the holder's hold and hands the bucket to the next in order (R73, R74, R79). -/
theorem State.holds_releaseHold (s : State) (who : Holder) (b : Nat) :
    (s.releaseHold who b).holds = s.holdsReleased (s.holds.set who .none) b := by
  unfold State.releaseHold State.holdsReleased
  have hr : (s.setHold who .none).readWaits b = s.readWaits b := rfl
  have hn : (s.setHold who .none).heldNow b = s.heldNow b := rfl
  simp only [hr]
  split_ifs <;> simp_all [State.holds_grantNext, State.setHold]

/-- A release leaves its holder without a hold and without a request. -/
@[simp] theorem State.get_releaseHold (s : State) (who : Holder) (b : Nat) :
    (s.releaseHold who b).holds.get who = .none := by
  cases who <;> simp only [State.releaseHold] <;> split_ifs <;>
    simp [State.holds_grantNext, State.setHold, Holds.set, Holds.get] <;> split_ifs <;> rfl

/-- A release changes another's standing only by granting it the bucket it waits for. -/
theorem State.get_releaseHold_ne (s : State) {who other : Holder} (b : Nat) (h : other ≠ who) :
    (s.releaseHold who b).holds.get other = s.holds.get other ∨
      (s.holds.get other = .waiting b ∧ (s.releaseHold who b).holds.get other = s.heldNow b) := by
  cases who <;> cases other <;>
    first
    | exact absurd rfl h
    | (simp only [State.releaseHold]; split_ifs <;>
        simp only [State.holds_grantNext, State.setHold, Holds.set, Holds.get] <;> (try split_ifs) <;>
        simp_all [State.heldNow])

/-! ### Job slots (R22) -/

theorem State.arbitrate_of_full (s : State) (h : s.freeSlots = 0) : s.arbitrate = s := by
  simp [State.arbitrate, State.grantMatcherSlot, State.grantSweeperSlot, h]

theorem State.arbitrate_of_idle (s : State) (hm : s.slots.matcherRequest ≠ .waiting)
    (hs : s.slots.sweeperRequest ≠ .waiting) : s.arbitrate = s := by
  simp [State.arbitrate, State.grantMatcherSlot, State.grantSweeperSlot, hm, hs]

/-- What the arbiter can do with the slots: grant a waiting request a free slot, or leave it. -/
theorem State.slots_arbitrate (s : State) :
    (s.arbitrate.slots.matcherRequest = s.slots.matcherRequest ∧
        s.arbitrate.slots.matcherReserved = s.slots.matcherReserved ∨
      s.slots.matcherRequest = .waiting ∧ s.arbitrate.slots.matcherRequest = .granted ∧
        s.arbitrate.slots.matcherReserved = s.slots.matcherReserved + 1) ∧
    (s.arbitrate.slots.sweeperRequest = s.slots.sweeperRequest ∧
        s.arbitrate.slots.sweeperReserved = s.slots.sweeperReserved ∨
      s.slots.sweeperRequest = .waiting ∧ s.arbitrate.slots.sweeperRequest = .granted ∧
        s.arbitrate.slots.sweeperReserved = s.slots.sweeperReserved + 1) := by
  unfold State.arbitrate State.grantMatcherSlot
  split_ifs with h
  · unfold State.grantSweeperSlot
    split_ifs with k
    · exact ⟨.inr ⟨h.1, rfl, rfl⟩, .inr ⟨k.1, rfl, rfl⟩⟩
    · exact ⟨.inr ⟨h.1, rfl, rfl⟩, .inl ⟨rfl, rfl⟩⟩
  · unfold State.grantSweeperSlot
    split_ifs with k
    · exact ⟨.inl ⟨rfl, rfl⟩, .inr ⟨k.1, rfl, rfl⟩⟩
    · exact ⟨.inl ⟨rfl, rfl⟩, .inl ⟨rfl, rfl⟩⟩

/-- The arbiter grants no more slots than are free. -/
theorem State.arbitrate_le (s : State)
    (h : s.fau.jobs.length + s.slots.matcherReserved + s.slots.sweeperReserved ≤ 8) :
    s.fau.jobs.length + s.arbitrate.slots.matcherReserved + s.arbitrate.slots.sweeperReserved ≤ 8 := by
  unfold State.arbitrate State.grantMatcherSlot State.grantSweeperSlot State.freeSlots Config.jobSlots
  split_ifs <;> simp_all <;> omega

/-! ### Fault capture (R178) -/

theorem FaultCapture.attempt_eq_after (f : FaultCapture) (kind : FaultKind) (time : LineTime) (source : Octet)
    (high low : Nat) :
    f.attempt kind time source high low = f.after kind time source (BitVec.ofNat 16 high) (BitVec.ofNat 16 low) := rfl

/-! ### Verdict entries (R84, R164) -/

theorem StationPort.settleSlot_frame (p : StationPort) (i : Nat) :
    (p.settleSlot i).intake = p.intake ∧ (p.settleSlot i).passDown = p.passDown ∧
      (p.settleSlot i).intakeCondition = p.intakeCondition ∧ (p.settleSlot i).forwardCondition = p.forwardCondition ∧
      (p.settleSlot i).farEndPause = p.farEndPause ∧ (p.settleSlot i).turnVerdicts = p.turnVerdicts ∧
      (p.settleSlot i).sending = p.sending ∧ (p.settleSlot i).awaitsBoundary = p.awaitsBoundary ∧
      (p.settleSlot i).verdicts.length = p.verdicts.length := by
  unfold StationPort.settleSlot
  split
  · split_ifs <;> simp
  · simp

/-- Settling a slot changes no entry. -/
theorem StationPort.entries_settleSlot (p : StationPort) (i j : Nat) :
    ((p.settleSlot i).verdicts[j]?).map (·.entries) = (p.verdicts[j]?).map (·.entries) := by
  unfold StationPort.settleSlot
  split
  · split_ifs
    · by_cases hj : i = j
      · subst hj
        rename_i v hv _
        obtain ⟨hi, hv⟩ := List.getElem?_eq_some_iff.1 hv
        simp [hi, hv]
      · simp [List.getElem?_set_ne hj]
    · rfl
  · rfl

/-- The entry at a position, by the entries of the slot. -/
theorem State.verdictAt_eq (s : State) (i p : Nat) :
    s.verdictAt i p = (((s.station.verdicts[i]?).map (·.entries)).bind fun l => l[p]?) := by
  unfold State.verdictAt
  cases s.station.verdicts[i]? <;> rfl

/-- A change of one entry is read back, and every other entry is as before. -/
theorem State.verdictAt_setEntry (s : State) (i p : Nat) (f : VerdictEntry → VerdictEntry) (j q : Nat) :
    (s.setEntry i p f).verdictAt j q = if i = j ∧ p = q then (s.verdictAt i p).map f else s.verdictAt j q := by
  unfold State.setEntry
  split
  · rename_i v hv
    rw [State.verdictAt_eq, StationPort.entries_settleSlot]
    by_cases hj : i = j
    · subst hj
      obtain ⟨hi, rfl⟩ := List.getElem?_eq_some_iff.1 hv
      by_cases hq : p = q
      · subst hq
        simp [hi, State.verdictAt]
      · simp [hi, State.verdictAt, hq]
    · simp [List.getElem?_set_ne hj, hj, State.verdictAt_eq]
  · rename_i hv
    split_ifs with h
    · obtain ⟨rfl, rfl⟩ := h
      simp [State.verdictAt, hv]
    · rfl

/-! ### Reply entries and the taking of a request (R166, R170, R171) -/

theorem freePlace_some {α : Type} {state : α → PlaceState} {places : List α} {i : Nat}
    (h : freePlace state places = some i) : ∃ p, places[i]? = some p ∧ state p = .free := by
  obtain ⟨hi, hp, -⟩ := List.findIdx?_eq_some_iff_getElem.1 h
  exact ⟨places[i], List.getElem?_eq_getElem hi, by simpa using hp⟩

/-- A reserved entry filled, where it stands at a place of the queue. -/
theorem State.office_fillReply (s : State) {i : Nat} {r : ReplyEntry} (x : Status) (d : List Octet)
    (h : s.office.replies[i]? = some r) :
    (s.fillReply i x d).office = { s.office with
      replies := s.office.replies.set i { r with state := .ready, status := x, data := d }
      readyReplies := s.office.readyReplies ++ [i] } := by
  obtain ⟨hi, rfl⟩ := List.getElem?_eq_some_iff.1 h
  simp [State.fillReply, List.modify_eq_set, hi]

/-- A request row takes the next request where it is that row's, and hands it to its block. -/
theorem State.onRequest_takes {s : State} {code entry : Nat} {f : Frame} (h : s.takes code entry f)
    (handle : State → Request → State) :
    s.onRequest code handle = .next (handle (s.reserve entry f) ⟨entry, frameSource f, argumentsOf f⟩) := by
  obtain ⟨h1, h2, h3, h4, h5, h6⟩ := h
  cases hq : s.office.intake with
  | nil => simp [hq] at h3
  | cons g rest =>
    obtain rfl : g = f := by simpa [hq] using h3
    simp [State.onRequest, State.nextRequest, h1, h2, hq, h4, h5, h6, argumentsOf]

/-- The taking of a request changes the Office Port alone: the entry is reserved. -/
theorem State.reserve_eq (s : State) (entry : Nat) (f : Frame) :
    s.reserve entry f = { s with office := s.officeReserved entry f } := rfl

/-- A request taken and answered in the same step. -/
theorem State.office_answer_reserve {s t : State} {code entry : Nat} {f : Frame} (h : s.takes code entry f)
    (ht : t.office = s.officeReserved entry f) (x : Status) (d : List Octet) :
    (t.fillReply entry x d).office = s.officeAnswered entry f x d := by
  obtain ⟨p, hp, -⟩ := freePlace_some h.2.2.2.1
  obtain ⟨hi, -⟩ := List.getElem?_eq_some_iff.1 hp
  rw [State.office_fillReply t (r := entryFor f .taken .done []) x d]
  · simp [ht, State.officeReserved, State.officeAnswered, OfficePort.taken, entryFor]
  · simp [ht, State.officeReserved, OfficePort.taken, hi]

/-- An answer to a request just taken changes the Office Port alone. -/
theorem State.fillReply_taken {s t : State} {code entry : Nat} {f : Frame} (h : s.takes code entry f)
    (ht : t.office = s.officeReserved entry f) (x : Status) (d : List Octet) :
    t.fillReply entry x d = { t with office := s.officeAnswered entry f x d } := by
  rw [← State.office_answer_reserve h ht]
  rfl

/-- Where no request may be taken, a request row leaves the state as it is (R170, R182). -/
theorem State.onRequest_idle {s : State} (h : s.nextRequest = none) (code : Nat) (handle : State → Request → State) :
    s.onRequest code handle = .next s := by
  rw [State.onRequest, h]

/-! ### The time trigger (R132, R149) -/

/-- The test of the schedule on one bank: SCHEDULED with its time come it is CHECKING, else it is as it was. -/
theorem State.bank_testSchedule (s : State) (now : LineTime) (b : BankId) :
    (s.testSchedule now).bank b =
      if s.clock.set = true ∧ s.sweeper.state ≠ .startPass then (s.bank b).testSchedule now else s.bank b := by
  unfold State.testSchedule
  cases b <;> split_ifs <;> rfl

/-- The trigger changes of the Matcher its readiness alone. -/
theorem State.matcher_wakeMatcher (s : State) :
    s.wakeMatcher.matcher =
      if s.matcher.readiness = .waiting ∧ s.clock.set = true ∧ s.activeBank.isSome = true then
        { s.matcher with readiness := .ready }
      else s.matcher := by
  unfold State.wakeMatcher
  split_ifs <;> rfl

/-! ### A clear broken off by a reset (R141) -/

/-- A clear broken off by a reset: the words of its bank stand as `clearBroken` says, nothing else of either bank
changes, and no clear is in flight (R141). -/
theorem State.breakClear_some {s : State} {c : Clear} (hc : s.store.clear = some c) :
    s.breakClear.store.clear = none ∧
      s.breakClear.bank c.bank = { s.bank c.bank with words := s.breakClear.words c.bank } ∧
      s.breakClear.bank c.bank.other = s.bank c.bank.other ∧
      (c.reached ≤ 255 → clearBroken c (s.words c.bank) (s.breakClear.words c.bank)) := by
  obtain ⟨n, hn⟩ : ∃ n, n = max c.reached (Config.clearProgress s.freeCount % 256) := ⟨_, rfl⟩
  obtain ⟨w, hw⟩ : ∃ w, w = clearRange (s.words c.bank) (1024 * c.segment) (1024 * c.segment + 4 * n) := ⟨_, rfl⟩
  obtain ⟨p, hp⟩ : ∃ p, p = clearPart w (1024 * c.segment + 4 * n) (Config.clearPartial (s.freeCount + 1)) := ⟨_, rfl⟩
  have key : s.breakClear = { s.setBank c.bank { s.bank c.bank with words := p } with
      store := { (s.setBank c.bank { s.bank c.bank with words := p }).store with clear := none }
      freeCount := s.freeCount + 2 } := by
    simp only [State.breakClear, State.advanceClear, hc, hn, hw, hp]
    cases c.bank <;> rfl
  have words : s.breakClear.words c.bank = p := by
    rw [key]
    cases c.bank <;> rfl
  refine ⟨by rw [key], ?_, ?_, fun hr => ?_⟩
  · rw [words, key]
    cases c.bank <;> rfl
  · rw [key]
    cases c.bank <;> rfl
  · have hn255 : n ≤ 255 := by omega
    obtain ⟨outside, inside, left⟩ :=
      wordAt_clearPart w (1024 * c.segment + 4 * n) (Config.clearPartial (s.freeCount + 1))
    have range := wordAt_clearRange (s.words c.bank) (1024 * c.segment) (1024 * c.segment + 4 * n)
    rw [← hw] at range
    rw [words, hp]
    refine ⟨fun o ho => ?_, n, by omega, hn255, fun o h1 h2 => ?_, fun o h1 h2 => ?_, fun ⟨i, hi, hne⟩ => ?_,
      fun o h1 h2 => ?_⟩
    · rw [outside o (by omega), range, if_neg (by omega)]
    · rw [outside o (by omega), range, if_pos (by omega)]
      rfl
    · rcases inside o with h | h
      · exact .inl (by rw [h, range, if_neg (by omega)])
      · exact .inr h
    · exact left ⟨i, hi, by rw [range, if_neg (by omega)]; exact hne⟩
    · rw [outside o (by omega), range, if_neg (by omega)]

/-! ### Frames: what an operation leaves alone -/

/-- A hold request sets the requester's hold alone (R73). -/
theorem State.requestHold_eq (s : State) (who : Holder) (b : Nat) :
    s.requestHold who b = { s with holds := s.holds.set who (s.holdGiven b) } := by
  simp only [State.requestHold, State.setHold, State.holdGiven]
  congr 2
  cases s.holds.heldIn b <;> cases s.holds.waitedIn b <;> cases s.readWaits b <;> rfl

theorem State.grantNext_only (s : State) (b : Nat) : s.grantNext b = { s with holds := (s.grantNext b).holds } := by
  simp only [State.grantNext, State.setHold]
  split_ifs <;> rfl

/-- A release changes the holds alone (R73, R74). -/
theorem State.releaseHold_only (s : State) (who : Holder) (b : Nat) :
    s.releaseHold who b = { s with holds := (s.releaseHold who b).holds } := by
  simp only [State.releaseHold]
  split_ifs
  · rfl
  · rw [State.grantNext_only]
    rfl

/-- The arbiter changes the slots alone (R22). -/
theorem State.arbitrate_only (s : State) : s.arbitrate = { s with slots := s.arbitrate.slots } := by
  simp only [State.arbitrate, State.grantSweeperSlot, State.grantMatcherSlot]
  split_ifs <;> rfl

/-- A Matcher that waits for no slot is given none. -/
theorem State.matcherSlots_arbitrate (s : State) (h : s.slots.matcherRequest = .none) :
    s.arbitrate.slots.matcherReserved = s.slots.matcherReserved ∧ s.arbitrate.slots.matcherRequest = .none := by
  simp only [State.arbitrate, State.grantSweeperSlot, State.grantMatcherSlot, h]
  split_ifs <;> simp_all

/-- The Sweeper has no slot and no request once it has returned its slot (R25). -/
theorem State.sweeperSlots_return (s : State) : s.returnSweeperSlot.slots.sweeperReserved = 0 ∧
    s.returnSweeperSlot.slots.sweeperRequest = .none := by
  simp only [State.returnSweeperSlot, State.arbitrate, State.grantSweeperSlot, State.grantMatcherSlot]
  split_ifs <;> simp_all

/-- The slots after the Sweeper's return: a free one goes to a Matcher that waits (R22, R25). -/
theorem State.slots_returnSweeperSlot (s : State) : s.returnSweeperSlot.slots = s.sweeperReturned := by
  have hf : (0 < 8 - (s.fau.jobs.length + s.slots.matcherReserved + 0)) =
      (s.fau.jobs.length + s.slots.matcherReserved < 8) := by
    apply propext
    omega
  simp only [State.returnSweeperSlot, State.arbitrate, State.grantSweeperSlot, State.grantMatcherSlot,
    State.sweeperReturned, State.freeSlots, Config.jobSlots, hf]
  split_ifs <;> simp_all

/-- A verdict entry's change changes the Station Port alone (R164). -/
theorem State.setEntry_only (s : State) (i p : Nat) (f : VerdictEntry → VerdictEntry) :
    s.setEntry i p f = { s with station := (s.setEntry i p f).station } := by
  simp only [State.setEntry]
  split <;> rfl

/-! ### Releases as equations (R73, R74, R79) -/

theorem State.readWaits_congr {s u : State} (h1 : u.responder.inWork = s.responder.inWork) (h2 : u.bucketCount = s.bucketCount)
    (b : Nat) : u.readWaits b = s.readWaits b := by
  simp only [State.readWaits, State.bucketOf, h1, h2]

theorem State.heldNow_congr {s u : State} (h1 : u.clock = s.clock) (h2 : u.fau.channels = s.fau.channels) (b : Nat) :
    u.heldNow b = s.heldNow b := by
  simp only [State.heldNow, h1, h2]

/-- A release as an equation (R73, R74, R79). -/
theorem State.releaseHold_eq (s : State) (who : Holder) (b : Nat) :
    s.releaseHold who b = { s with holds := s.holdsReleased (s.holds.set who .none) b } := by
  rw [State.releaseHold_only, State.holds_releaseHold]

/-- The holds after a release depend on what is held and waited for, on a READ TOKEN that waits, and on what a grant
reads. -/
theorem State.holdsReleased_congr {s u : State} (hr : u.responder.inWork = s.responder.inWork)
    (hb : u.bucketCount = s.bucketCount) (hc : u.clock = s.clock) (hf : u.fau.channels = s.fau.channels) (h : Holds)
    (b : Nat) : u.holdsReleased h b = s.holdsReleased h b := by
  simp only [State.holdsReleased, State.readWaits_congr hr hb, State.heldNow_congr hc hf]

theorem State.matcherReleased_congr {s u : State} (hh : u.holds = s.holds) (hr : u.responder.inWork = s.responder.inWork)
    (hb : u.bucketCount = s.bucketCount) (hc : u.clock = s.clock) (hf : u.fau.channels = s.fau.channels) (b : Nat) :
    u.matcherReleased b = s.matcherReleased b := by
  simp only [State.matcherReleased, hh, State.holdsReleased_congr hr hb hc hf]

theorem State.sweeperReleased_congr {s u : State} (hh : u.holds = s.holds) (hr : u.responder.inWork = s.responder.inWork)
    (hb : u.bucketCount = s.bucketCount) (hc : u.clock = s.clock) (hf : u.fau.channels = s.fau.channels) (b : Nat) :
    u.sweeperReleased b = s.sweeperReleased b := by
  simp only [State.sweeperReleased, hh, State.holdsReleased_congr hr hb hc hf]

theorem State.holdGiven_congr {s u : State} (hh : u.holds = s.holds) (hr : u.responder.inWork = s.responder.inWork)
    (hb : u.bucketCount = s.bucketCount) (hc : u.clock = s.clock) (hf : u.fau.channels = s.fau.channels) (b : Nat) :
    u.holdGiven b = s.holdGiven b := by
  simp only [State.holdGiven, hh, State.readWaits_congr hr hb, State.heldNow_congr hc hf]

theorem State.sweeperGoesOn_congr {s u : State} (hh : u.holds = s.holds) (hr : u.responder.inWork = s.responder.inWork)
    (hb : u.bucketCount = s.bucketCount) (hc : u.clock = s.clock) (hf : u.fau.channels = s.fau.channels) (b n : Nat) :
    u.sweeperGoesOn b n = s.sweeperGoesOn b n := by
  simp only [State.sweeperGoesOn, State.sweeperReleased_congr hh hr hb hc hf]
  congr 1
  exact State.holdGiven_congr (u := { u with holds := s.sweeperReleased b })
    (s := { s with holds := s.sweeperReleased b }) rfl hr hb hc hf n

/-! ### The arbiter's acts as equations (R22) -/

/-- A reservation asked for, as an equation (R22, R23). -/
theorem State.requestMatcherSlot_eq (s : State) : s.requestMatcherSlot = { s with slots := s.matcherAsked } := by
  have h1 : (0 < 8 - (s.fau.jobs.length + s.slots.matcherReserved + s.slots.sweeperReserved)) =
      (s.fau.jobs.length + s.slots.matcherReserved + s.slots.sweeperReserved < 8) := by
    apply propext; omega
  have h2 : (0 < 8 - (s.fau.jobs.length + (s.slots.matcherReserved + 1) + s.slots.sweeperReserved)) =
      (s.fau.jobs.length + s.slots.matcherReserved + s.slots.sweeperReserved + 1 < 8) := by
    apply propext; omega
  simp only [State.requestMatcherSlot, State.arbitrate, State.grantSweeperSlot, State.grantMatcherSlot,
    State.matcherAsked, State.freeSlots, Config.jobSlots, h1, true_and]
  by_cases hu : s.fau.jobs.length + s.slots.matcherReserved + s.slots.sweeperReserved < 8
  · simp only [hu, if_true, h2]
    split_ifs <;> rfl
  · simp only [hu, if_false, and_false, h1]

/-- The Matcher's reservations returned, as an equation (R22, R23). -/
theorem State.returnMatcherSlots_eq (s : State) (h : s.slots.matcherRequest = .none) :
    s.returnMatcherSlots = { s with slots := s.matcherReturned s.fau.jobs.length } := by
  have h1 : (0 < 8 - (s.fau.jobs.length + 0 + s.slots.sweeperReserved)) =
      (s.fau.jobs.length + s.slots.sweeperReserved < 8) := by
    apply propext; omega
  simp only [State.returnMatcherSlots, State.arbitrate, State.grantSweeperSlot, State.grantMatcherSlot, h,
    State.matcherReturned, State.freeSlots, Config.jobSlots, h1, reduceCtorEq, false_and, if_false]
  split_ifs <;> simp_all

/-- The Sweeper's slot returned, as an equation (R22, R25). -/
theorem State.returnSweeperSlot_eq (s : State) : s.returnSweeperSlot = { s with slots := s.sweeperReturned } := by
  rw [← State.slots_returnSweeperSlot]
  unfold State.returnSweeperSlot
  rw [State.arbitrate_only]

/-! ### A verdict entry set (R164) -/

/-- The change of an element that is there. -/
theorem modify_of_getElem? {α : Type} (f : α → α) {x : α} :
    ∀ (l : List α) (i : Nat), l[i]? = some x → l.modify i f = l.set i (f x)
  | [], _, h => by simp at h
  | a :: l, 0, h => by
    obtain rfl : a = x := by simpa using h
    rfl
  | a :: l, i + 1, h => by simp [modify_of_getElem? f l i (by simpa using h)]

/-- An element replaced. -/
theorem modify_const {α : Type} (x : α) : ∀ (l : List α) (i : Nat), l.modify i (fun _ => x) = l.set i x
  | [], i => by cases i <;> rfl
  | _ :: _, 0 => rfl
  | a :: l, i + 1 => by simp [modify_const x l i]

/-- An entry set, as an equation: the slot is settled in the same change (R164). -/
theorem State.setEntry_eq (s : State) (i p : Nat) (e : VerdictEntry) :
    s.setEntry i p (fun _ => e) = { s with station := s.station.withEntry i p e } := by
  unfold State.setEntry StationPort.withEntry
  cases hv : s.station.verdicts[i]? with
  | none => rfl
  | some v =>
    obtain ⟨hi, rfl⟩ := List.getElem?_eq_some_iff.1 hv
    simp only [StationPort.settleSlot, List.getElem?_set_self hi, VerdictSlot.allComplete, List.all_eq_true,
      modify_const, List.set_set]
    split_ifs <;> rfl

/-- A change of an entry is the setting of the changed entry. -/
theorem State.setEntry_change (s : State) {i p : Nat} {x : VerdictEntry} (f : VerdictEntry → VerdictEntry)
    (h : s.verdictAt i p = some x) : s.setEntry i p f = { s with station := s.station.withEntry i p (f x) } := by
  rw [← State.setEntry_eq]
  unfold State.setEntry
  unfold State.verdictAt at h
  cases hv : s.station.verdicts[i]? with
  | none => rfl
  | some v =>
    have hx : v.entries[p]? = some x := by simpa [hv] using h
    simp only [modify_of_getElem? f _ _ hx, modify_const]

/-- An entry set reads back, where the slot has that position. -/
theorem State.verdictAt_withEntry (s : State) {i p : Nat} (e : VerdictEntry) (h : (s.verdictAt i p).isSome = true) :
    ({ s with station := s.station.withEntry i p e } : State).verdictAt i p = some e := by
  obtain ⟨x, hx⟩ := Option.isSome_iff_exists.1 h
  rw [← State.setEntry_eq, State.verdictAt_setEntry]
  simp [hx]

/-! ### The ends of a tap record (R106) -/

/-- A wait after a hold, as an equation: the bucket is released, the work is `w`, and nothing else changes. -/
theorem State.waitAfterHold_eq (s : State) (b : Nat) (w : MatcherWork) :
    s.waitAfterHold b w =
      { s with matcher := { s.matcher with work := w }, holds := s.matcherReleased b } := by
  simp only [State.waitAfterHold, State.releaseHold_eq]
  rfl

/-- The frame in work after a record of it has ended (R84). -/
theorem FrameInWork.bind_afterRecord (f : Option FrameInWork) :
    f.bind FrameInWork.afterRecord = if f.map (·.remaining) = some [] then none else f := by
  cases f with
  | none => rfl
  | some f => cases h : f.remaining <;> simp [FrameInWork.afterRecord, h]

/-- The end of a tap record, as an equation (R84, R106). -/
theorem State.finish_tap (s : State) (b : Nat) (h : Handling) (slot position : Nat) (source : Octet)
    (ho : h.origin = .tap slot position source) (hr : s.slots.matcherRequest = .none) :
    s.finish b h = { s with
      holds := s.matcherReleased b, slots := s.matcherReturned s.fau.jobs.length, matcher := s.matcher.recordEnded
      responder := { s.responder with counters := { s.responder.counters with
        tapsTaken := s.responder.counters.tapsTaken + 1 } } } := by
  simp only [State.finish, State.endWork, State.countTaken, ho, State.releaseHold_eq]
  rw [State.returnMatcherSlots_eq _ (by simpa [State.count, State.setWork] using hr)]
  simp only [State.count, State.setWork, Counters.addTaken, FrameInWork.bind_afterRecord]
  rfl

/-- The end of an ASSIST EXIT, as an equation (R108). -/
theorem State.finish_assist (s : State) (b entry : Nat) (h : Handling) (ho : h.origin = .assist entry)
    (hr : s.slots.matcherRequest = .none) :
    s.finish b h = { s with
      holds := s.matcherReleased b, slots := s.matcherReturned s.fau.jobs.length
      matcher := { s.matcher with work := .none }, responder := { s.responder with inWork := none } } := by
  simp only [State.finish, State.endWork, State.countTaken, ho, State.releaseHold_eq]
  rw [State.returnMatcherSlots_eq _ (by simpa [State.setWork] using hr)]
  rfl

/-- A record with its verdict filled, and its end (R84, R105, R106, R164). -/
theorem State.finish_setVerdict (s : State) (b : Nat) (h : Handling) (e : VerdictEntry) (slot position : Nat)
    (source : Octet) (ho : h.origin = .tap slot position source) (hr : s.slots.matcherRequest = .none) :
    (s.setVerdict h e).finish b h = { s with
      station := s.station.withEntry slot position e, holds := s.matcherReleased b
      slots := s.matcherReturned s.fau.jobs.length, matcher := s.matcher.recordEnded
      responder := { s.responder with counters := { s.responder.counters with
        tapsTaken := s.responder.counters.tapsTaken + 1 } } } := by
  have he : s.setVerdict h e = { s with station := s.station.withEntry slot position e } := by
    simp only [State.setVerdict, ho, State.setEntry_eq]
  rw [he]
  exact State.finish_tap { s with station := s.station.withEntry slot position e } b h slot position source ho hr

/-- A record that ends in the hold after changes `u` of its own: its verdict entry is `e`, and it ends as `tapEnds` says
(R22, R73, R84, R105, R106, R164). -/
theorem State.tapEnds_finish {s u : State} {b slot position : Nat} {source : Octet} {h : Handling} (e : VerdictEntry)
    (ho : h.origin = .tap slot position source) (hv : (s.verdictAt slot position).isSome = true)
    (hr : u.slots.matcherRequest = .none) (hst : u.station = s.station) (hm : u.matcher = s.matcher)
    (hh : u.holds = s.holds) (hw : u.responder.inWork = s.responder.inWork) (hb : u.bucketCount = s.bucketCount)
    (hc : u.clock = s.clock) (hf : u.fau.channels = s.fau.channels)
    (h1 : u.slots.sweeperRequest = s.slots.sweeperRequest) (h2 : u.slots.sweeperReserved = s.slots.sweeperReserved) :
    s.tapEnds ((u.setVerdict h e).finish b h) b slot position e := by
  rw [State.finish_setVerdict u b h e slot position source ho hr]
  refine ⟨?_, by rw [hst], by rw [hm], State.matcherReleased_congr hh hw hb hc hf b, ?_⟩
  · have := State.verdictAt_withEntry s e hv
    rw [← hst] at this
    exact this
  · simp only [State.matcherReturned, h1, h2]

/-- A record refused before any hold, as an equation (R22, R83, R84, R87 to R89, R164). -/
theorem State.refuseRecord_eq (s : State) (h : Handling) (kind : VerdictKind) (slot position : Nat) (source : Octet)
    (ho : h.origin = .tap slot position source) (hr : s.slots.matcherRequest = .none) :
    s.refuseRecord h kind = { s with
      station := s.station.withEntry slot position ⟨true, some kind, {}, 0, 65535⟩
      slots := s.matcherReturned s.fau.jobs.length, matcher := s.matcher.recordEnded
      responder := { s.responder with counters := { s.responder.counters with
        tapsTaken := s.responder.counters.tapsTaken + 1, tapsRefused := s.responder.counters.tapsRefused + 1 } } } := by
  simp only [State.refuseRecord, State.endWork, ho, State.setVerdict, State.setEntry_eq]
  rw [State.returnMatcherSlots_eq _ (by exact hr)]
  simp only [FrameInWork.bind_afterRecord]
  rfl

/-! ### The ends of an examination and of a pass over a bucket (R114, R121, R122) -/

/-- A bucket fully examined, as an equation (R114, R121). -/
theorem State.fullyExamined_eq (s : State) (b : Nat) :
    s.fullyExamined b = { s with
      holds := s.holdsExamined b, slots := s.sweeperReturned, sweeper := s.sweeperExamined } := by
  have hd : (s.sweeper.examined s.bucketCount).burstDone = s.sweeper.burstDone + 1 := rfl
  have hp : (s.sweeper.examined s.bucketCount).pointer = s.nextPointer := rfl
  simp only [State.fullyExamined, State.releaseHold_eq, State.returnSweeperSlot_eq, State.continueBurst, hd, hp,
    Config.burstBuckets, State.holdsExamined]
  by_cases hg : s.sweeper.burstDone + 1 < 4
  · have hs : s.sweeper.examined s.bucketCount = s.sweeperExamined := by
      simp only [Sweeper.examined, State.sweeperExamined, State.nextPointer, hg, if_true, true_or]
      by_cases h1 : s.sweeper.round + 1 = s.bucketCount <;> cases h2 : s.sweeper.mode <;>
        cases h3 : s.sweeper.passComplete <;> simp [h1]
    simp only [hg, if_true, State.requestHold_eq, hs]
    rfl
  · have hs : (s.sweeper.examined s.bucketCount).endBurst = s.sweeperExamined := by
      simp only [Sweeper.examined, Sweeper.endBurst, State.sweeperExamined, State.nextPointer, hg, if_false, false_or]
      by_cases h1 : s.sweeper.round + 1 = s.bucketCount <;> by_cases h2 : s.sweeper.mode = .single <;>
        by_cases h3 : s.sweeper.passComplete = true <;> by_cases h4 : s.sweeper.state = .stopping <;>
        simp [h1, h2, h3, h4]
    simp only [hg, if_false, hs]
    rfl

/-- The pass at the next bucket, as an equation (R122). -/
theorem State.nextPassBucket_eq (s : State) (b : Nat) (h : b + 1 < s.bucketCount) :
    s.nextPassBucket b = { s with
      holds := s.sweeperGoesOn b (b + 1), sweeper := { s.sweeper with passBucket := b + 1, passWay := 0 } } := by
  simp only [State.nextPassBucket, State.releaseHold_eq, h, if_true, State.requestHold_eq]
  rfl

/-! ### Insertions (R68, R69) -/

/-- What making room in a way changes beside the banks and the slots. -/
theorem State.vacate_frame (s : State) (b : Nat) (h : Handling) (p : Placement) (slot position : Nat) (source : Octet)
    (ho : h.origin = .tap slot position source) :
    s.vacate b h p = { s with
        store := (s.vacate b h p).store, slots := (s.vacate b h p).slots
        responder := { s.insertionSeen b p source with counters :=
          { (s.insertionSeen b p source).counters with tapsTaken := s.responder.counters.tapsTaken } }
        fau := { s.fau with
          tag := s.fau.tag + BitVec.ofNat 16 (p.jobs s.fau.tag).length
          jobs := s.fau.jobs ++ p.jobs s.fau.tag } } ∧
      (s.vacate b h p).slots.matcherRequest = s.slots.matcherRequest := by
  cases p with
  | free w => simp [State.vacate, State.insertionSeen, Placement.jobs]
  | full => simp [State.vacate, State.insertionSeen, Placement.jobs]
  | evict w r =>
    cases hr : r.recent <;> simp [State.vacate, State.insertionSeen, Placement.jobs, State.releaseRecent, State.count,
      Counters.addEviction, hr, State.releaseRef, State.setBank]
  | displace w r o =>
    cases hr : r.recent <;> simp [State.vacate, State.insertionSeen, Placement.jobs, State.releaseRecent, State.count,
      Counters.addDisplacement, hr, State.releaseRef, State.setBank, State.capture, State.submitMatcher, State.submit,
      displacedJob, entryFlags, Handling.source, ho, FaultCapture.attempt_eq_after]

/-- What an insertion after its bank claim does to the banks. -/
theorem State.banks_vacate (s : State) (b : Nat) (h : Handling) (p : Placement) (k : BankId) :
    s.insertionBanks ((s.makeRef k).vacate b h p) p k := by
  have free : ∀ p : Placement, p.dropped = none → (s.makeRef k).vacate b h p = s.makeRef k →
      s.insertionBanks ((s.makeRef k).vacate b h p) p k := by
    intro p hp hv
    refine ⟨by rw [hv]; cases k <;> rfl, fun j => ?_⟩
    rw [hv, State.bank_makeRef, hp]
    cases k <;> cases j <;> simp
  cases p with
  | free w => exact free _ rfl rfl
  | full => exact free _ rfl rfl
  | evict w r =>
    cases hr : r.recent with
    | none =>
      refine ⟨?_, fun j => ?_⟩ <;> cases k <;> (try cases j) <;> simp [State.vacate, State.releaseRecent, hr, State.count,
        State.makeRef, State.setBank, TableStore.setBank, State.bank, TableStore.bank, Placement.dropped,
        Placement.removed]
    | some q =>
      refine ⟨?_, fun j => ?_⟩ <;> cases k <;> (try cases j) <;> cases hq : q.bank <;> simp [State.vacate,
        State.releaseRecent, hr, hq, State.releaseRef, State.count, State.makeRef, State.setBank, TableStore.setBank,
        State.bank, TableStore.bank, Placement.dropped, Placement.removed, State.inRestartPass]
  | displace w r o =>
    cases hr : r.recent with
    | none =>
      refine ⟨?_, fun j => ?_⟩ <;> cases k <;> (try cases j) <;> simp [State.vacate, State.releaseRecent, hr, State.count,
        State.makeRef, State.setBank, TableStore.setBank, State.bank, TableStore.bank, Placement.dropped,
        Placement.removed, State.capture, State.submitMatcher, State.submit]
    | some q =>
      refine ⟨?_, fun j => ?_⟩ <;> cases k <;> (try cases j) <;> cases hq : q.bank <;> simp [State.vacate,
        State.releaseRecent, hr, hq, State.releaseRef, State.count, State.makeRef, State.setBank, TableStore.setBank,
        State.bank, TableStore.bank, Placement.dropped, Placement.removed, State.inRestartPass, State.capture,
        State.submitMatcher, State.submit]

/-! ### The Sweeper's ways (R116, R124, R125) -/

/-- Ways that are empty or hold a closing part are passed over by an examination. -/
theorem State.examineWays_skip (b : Nat) (now : LineTime) (s : State) : ∀ ws vs : List Nat,
    (∀ v ∈ ws, ∀ q, s.way b v = some q → q.closing.isSome = true) →
    s.examineWays b now (ws ++ vs) = s.examineWays b now vs
  | [], _, _ => rfl
  | v :: ws, vs, h => by
    have hv : s.examineWay b v now = (s, false) := by
      simp only [State.examineWay]
      cases hw : s.way b v with
      | none => rfl
      | some q => simp [h v (by simp) q hw]
    simp only [List.cons_append, State.examineWays, hv]
    exact State.examineWays_skip b now s ws vs fun v hv => h v (by simp [hv])

/-- The open and the recent-expiry part of a record are counted to their banks, and nothing else changes. -/
theorem State.countParts_eq (s : State) (r : TokenRecord) :
    s.countParts r = { s with store := (s.countParts r).store } ∧
      ∀ k, (s.countParts r).bank k = { s.bank k with refs := (s.bank k).refs +
        ((if r.openPart.map (·.bank) = some k then 1 else 0) + if r.recent.map (·.bank) = some k then 1 else 0) } := by
  refine ⟨?_, fun k => ?_⟩
  · simp only [State.countParts]
    cases r.openPart <;> cases r.recent <;> rfl
  · simp only [State.countParts]
    cases r.openPart with
    | none =>
      cases r.recent with
      | none => simp
      | some p => cases hp : p.bank <;> cases k <;> simp [State.bank_makeRef, hp]
    | some o =>
      cases r.recent with
      | none => cases ho : o.bank <;> cases k <;> simp [State.bank_makeRef, ho]
      | some p =>
        cases ho : o.bank <;> cases hp : p.bank <;> cases k <;> simp [State.bank_makeRef, ho, hp]

/-- A pass over ways without closing parts counts their parts to their banks, and changes nothing else (R124, R125). -/
theorem State.passWays_counts (b : Nat) : ∀ (ws : List Nat) (s : State),
    (∀ v ∈ ws, ∀ q, s.way b v = some q → q.closing = none) →
    ∃ u, s.passWays b ws = (u, none) ∧ u = { s with store := u.store } ∧
      ∀ k, u.bank k = { s.bank k with refs :=
        (s.bank k).refs + (ws.map fun v => ((s.way b v).map fun q => q.namings k).getD 0).sum }
  | [], s, _ => ⟨s, rfl, rfl, fun k => by simp⟩
  | v :: ws, s, h => by
    simp only [State.passWays, State.passWay]
    cases hv : s.way b v with
    | none =>
      obtain ⟨u, hu, frame, banks⟩ := State.passWays_counts b ws s fun v hv => h v (by simp [hv])
      exact ⟨u, hu, frame, fun k => by rw [banks k]; simp [hv]⟩
    | some q =>
      have hc := h v (by simp) q hv
      obtain ⟨hs, hb⟩ := State.countParts_eq s q
      have hw : ∀ x, (s.countParts q).way b x = s.way b x := fun x => State.way_congr (by rw [hs]) b x
      obtain ⟨u, hu, frame, banks⟩ := State.passWays_counts b ws (s.countParts q) fun v hv x hx =>
        h v (by simp [hv]) x (by rwa [hw] at hx)
      simp only [hc]
      refine ⟨u, hu, by rw [hs] at frame; exact frame, fun k => ?_⟩
      rw [banks k, hb k]
      simp [hv, hw, TokenRecord.namings, hc]
      ring

/-! ### The release of a reference and of the FAU's bucket (R76, R79, R152, R153) -/

/-- A release of one reference is the release that `banksReleased` describes (R152, R153). -/
theorem State.banksReleased_releaseRef (s : State) (b : BankId) :
    s.banksReleased (s.releaseRef b) fun k => if k = b then 1 else 0 := by
  refine ⟨by cases b <;> rfl, fun k => ?_⟩
  by_cases hk : k = b
  · subst hk
    simp only [State.releaseRef, State.bank_setBank_self, if_true, Nat.zero_lt_one, true_and]
  · simp [hk, State.releaseRef, State.bank_setBank_ne _ _ hk]

/-- Releases made one after another are released together (R152, R153). -/
theorem State.banksReleased_trans {s u t : State} {m n : BankId → Nat} (h1 : s.banksReleased u m)
    (h2 : u.banksReleased t n) (hr : u.inRestartPass = s.inRestartPass) : s.banksReleased t fun k => m k + n k := by
  obtain ⟨a1, a2⟩ := h1
  obtain ⟨b1, b2⟩ := h2
  refine ⟨by rw [b1, a1], fun k => ?_⟩
  rw [b2 k, a2 k, hr]
  simp only [Bank.mk.injEq, true_and, and_true, Nat.sub_sub]
  by_cases hs : (s.bank k).state = .retiring <;> by_cases hq : s.inRestartPass = false
  · by_cases hm : 0 < m k <;> by_cases hz : (s.bank k).refs - m k = 0 <;> by_cases hn : 0 < n k <;>
      simp [hs, hq, hm, hz, hn] <;> omega
  all_goals simp [hs, hq]

/-- A bucket that is held is not granted to a further request (R73). -/
theorem State.holdGiven_held {s : State} {b : Nat} {r : Reading} {who : Holder} (h : s.holds.get who = .held b r) :
    s.holdGiven b = .waiting b := by
  have : s.holds.heldIn b = true := by cases who <;> simp_all [Holds.get, Holds.heldIn, Hold.holdsBucket]
  simp [State.holdGiven, this]

/-- The notice and the release that follows it are what `noticed` describes (R76, R79). -/
theorem State.noticed_release (s : State) (b : Nat) (r : Reading) (token : Token) (hf : s.holds.fau = .held b r) (f : FauState) :
    s.noticed (((s.notice b token).setFau f).releaseHold .fau b) b token := by
  constructor
  · intro h hm
    have key : s.notice b token =
        { s with matcher := { s.matcher with work := .waitHold h }, holds := { s.holds with matcher := .waiting b } } := by
      have hg : ∀ m : Matcher, ({ s with matcher := m } : State).holdGiven b = .waiting b := fun m =>
        State.holdGiven_held (who := .fau) hf
      unfold State.notice
      rcases hm with ⟨h1, h2⟩ | ⟨h1, h2⟩ <;> simp only [h1, h2, if_true, State.requestHold_eq] <;>
        rw [hg] <;> rfl
    rw [key, State.holds_releaseHold]
    refine ⟨by rw [State.releaseHold_only]; rfl, ?_⟩
    have hr : ∀ (m : Matcher) (h : Holds) (f : Fau),
        ({ s with matcher := m, holds := h, fau := f } : State).readWaits b = s.readWaits b :=
      fun m h f => State.readWaits_congr rfl rfl b
    have hn : ∀ (m : Matcher) (h : Holds) (g : FauState),
        ({ s with matcher := m, holds := h, fau := { s.fau with state := g } } : State).heldNow b = s.heldNow b :=
      fun m h g => State.heldNow_congr rfl rfl b
    simp only [State.holdsReleased, State.setFau, Holds.set]
    rw [hr, hn]
    split_ifs <;> simp_all
  · intro h1 h2
    have key : s.notice b token = s := by
      unfold State.notice
      split <;> simp_all
    rw [key, State.holds_releaseHold]
    refine ⟨by rw [State.releaseHold_only]; rfl, ?_⟩
    rfl

/-! ### The FAU's and the Matcher's states (R19, R86) -/

@[simp] theorem Fau.beginComputing_frame (f : Fau) (m : WordMem) (j : Job) :
    (f.beginComputing m j).state = .computing j ∧ (f.beginComputing m j).jobs = f.jobs ∧
    (f.beginComputing m j).tag = f.tag ∧ (f.beginComputing m j).channels = f.channels ∧
    (f.beginComputing m j).serial = f.serial := ⟨rfl, rfl, rfl, rfl, rfl⟩

@[simp] theorem Fau.endComputing_frame (f : Fau) (j : Job) (r : FareResult) :
    (f.endComputing j r).state = .waitSettlement j r ∧ (f.endComputing j r).jobs = f.jobs ∧
    (f.endComputing j r).tag = f.tag ∧ (f.endComputing j r).channels = f.channels ∧
    (f.endComputing j r).serial = f.serial ∧ (f.endComputing j r).accumulator = 0 ∧
    (f.endComputing j r).intermediate = 0 := ⟨rfl, rfl, rfl, rfl, rfl, rfl, rfl⟩

/-- STATUS sends the code of the state of Table 2-1 that the FAU is in. -/
theorem State.code_fauStanding (s : State) : s.fauStanding.code = s.fauCode := by
  unfold State.fauStanding State.fauCode
  cases s.fau.state <;> try rfl
  cases s.holds.fau <;> rfl

theorem freePlace_none {α : Type} (state : α → PlaceState) (places : List α) :
    freePlace state places = none ↔ ¬(places.any fun p => state p == .free) = true := by
  simp [freePlace]

/-- STATUS sends the code of the state of Table 5-2 that the Matcher is in. -/
theorem State.code_matcherStanding (s : State) : s.matcherStanding.code = s.workCode := by
  unfold State.matcherStanding State.workCode State.idleStanding
  cases s.matcher.work with
  | none =>
    have hp := freePlace_none VerdictSlot.state s.station.verdicts
    cases s.matcher.frame with
    | some f => rfl
    | none =>
      cases s.station.intake with
      | nil => rfl
      | cons f rest =>
        simp only [hp]
        cases s.station.verdicts.any fun v => v.state == .free <;> rfl
  | waitHold h => cases s.holds.matcher <;> rfl
  | _ => rfl

/-! ### Lookups of a judging bank (R1) -/

/-- A lookup in the judging bank is allowed exactly while that bank is in use. -/
theorem State.judgeable_iff (s : State) (h : Handling) : s.judgeable h = true ↔ s.judgingInUse h := by
  simp [State.judgeable, Bank.readable, State.judgingInUse, and_comm]

/-- A bank claim succeeds exactly while the judging bank is still ACTIVE. -/
theorem State.claimHolds_iff (s : State) (h : Handling) : s.claimHolds h = true ↔ s.judgingActive h := by
  simp [State.claimHolds, State.judgingActive, and_comm]

/-- A judging bank that is still ACTIVE is in use. -/
theorem State.judgingInUse_of_active {s : State} {h : Handling} (ha : s.judgingActive h) : s.judgingInUse h :=
  ⟨ha.1, .inl ha.2⟩

/-- A change of the record in work leaves what its work state says of the Matcher's slots. -/
@[simp] theorem MatcherWork.slotsSound_withHandling (w : MatcherWork) (f : Handling → Handling) (q : SlotRequest)
    (n : Nat) : (w.withHandling f).slotsSound q n = w.slotsSound q n := by
  cases w <;> rfl

/-- The record in work after a change of it. -/
@[simp] theorem MatcherWork.judged?_withHandling (w : MatcherWork) (f : Handling → Handling) :
    (w.withHandling f).judged? = w.judged?.map f := by
  cases w <;> rfl

theorem Handling.atLastTap_iff (h : Handling) (r : TokenRecord) : h.atLastTap r = true ↔ h.repeatsTap r := by
  unfold Handling.atLastTap Handling.repeatsTap
  cases r.lastTap <;> simp

/-- A tap begun again changes the work state and the hold alone. -/
theorem State.claimFails_eq (s : State) (b : Nat) (h : Handling) :
    s.claimFails b h =
      { s with matcher := { s.matcher with work := .rejudge h }, holds := s.matcherReleased b } :=
  s.waitAfterHold_eq b (.rejudge h)

/-- A record that the Matcher may judge is handled by the duplicate test and the direction; any other begins again. -/
theorem State.handleTap_found (s : State) (b : Nat) (h : Handling) (w : Nat) (r : TokenRecord) (now : LineTime)
    (day : BitVec 16) :
    (h.repeatsTap r → ¬s.judgingInUse h → s.handleTap b h (some (w, r)) now day = s.claimFails b h) ∧
    ((h.repeatsTap r → s.judgingInUse h) → s.handleTap b h (some (w, r)) now day =
      if isDuplicate (s.words h.judging) h r then s.endDuplicate b w h r now
      else if takenAsEntry h.tap.direction r.openPart.isSome then s.handleEntry b h (some (w, r)) now day
      else
        match r.openPart with
        | some o => s.exitOpen b w h r o now
        | none => s.exitNoOpen b h (some (w, r)) now day) := by
  have hj : s.judgeable h = false ↔ ¬s.judgingInUse h := by rw [← State.judgeable_iff, Bool.not_eq_true]
  refine ⟨fun hr hn => ?_, fun hi => ?_⟩
  · rw [State.handleTap, if_pos ⟨(h.atLastTap_iff r).2 hr, hj.2 hn⟩]
  · exact if_neg (c := h.atLastTap r = true ∧ s.judgeable h = false) fun hc =>
      hj.1 hc.2 (hi ((h.atLastTap_iff r).1 hc.1))

/-! ### The end of an activation check (R150, R151) -/

/-- A check whose steps all hold passes. -/
theorem State.endCheck_pass {s : State} {b : BankId} (h : checkFailure (s.words b) = none) :
    s.endCheck b = s.passCheck b := by
  rw [State.endCheck, h, State.endCheckAs]

/-- A check fails with the code of its failing step. -/
theorem State.endCheck_fail {s : State} {b : BankId} {code : Nat} (h : checkFailure (s.words b) = some code) :
    s.endCheck b = s.failCheckAt b code := by
  rw [State.endCheck, h, State.endCheckAs]

/-- What a pass changes: both banks, and of the Matcher its readiness and whether the record in work still stands under
the bank. -/
theorem State.passCheck_eq (s : State) (b : BankId) :
    s.passCheck b = { s with
      store := (s.store.setBank b.other (s.bank b.other).replaced).setBank b (s.bank b).activated
      matcher := { s.matcher with
        readiness :=
          if s.matcher.readiness = .waiting ∧ s.clock.set = true then .ready else s.matcher.readiness
        work := s.matcher.work.withHandling fun h => h.afterPass b } } := by
  obtain ⟨k, hk⟩ : ∃ k, k = (s.bank b).activated := ⟨_, rfl⟩
  have active : k.state = .active := by rw [hk]; rfl
  rw [State.passCheck, ← hk]
  generalize (s.bank b.other).replaced = r
  have one : (((s.setBank b.other r).setBank b k).lapseRecord b).activeBank.isSome = true := by
    cases b <;> simp [State.activeBank, State.lapseRecord, State.setBank, TableStore.setBank, BankId.other, active]
    split_ifs <;> rfl
  rw [State.wakeMatcher]
  simp only [one, and_true]
  show (if s.matcher.readiness = .waiting ∧ s.clock.set = true then _ else _) = _
  split_ifs <;> rfl

/-! ### The derived column (R150, Table 9-10) -/

/-- What the word of a station in force gives back to the lookups of the derived column. -/
theorem derivedWord_fields (m : WordMem) (s : Nat) (h : s < stationCount m) :
    lowHalf (derivedWord m s) = (farthest m s).1 % 65536 ∧
      ((derivedWord m s).extractLsb' 16 8).toNat = (farthest m s).2 % 256 := by
  have sum : ∀ a k d : Nat, k < 256 → d < 65536 →
      (a * 16777216 + k * 65536 + d) % 4294967296 % 65536 = d ∧
      (a * 16777216 + k * 65536 + d) % 4294967296 / 65536 % 256 = k := by omega
  unfold lowHalf derivedWord
  rw [if_pos h]
  generalize (farthest m s).2 = k, (farthest m s).1 = d
  rw [BitVec.extractLsb'_toNat, BitVec.extractLsb'_toNat, BitVec.toNat_ofNat, Nat.shiftRight_zero,
    Nat.shiftRight_eq_div_pow]
  exact sum _ _ _ (Nat.mod_lt _ (by decide)) (Nat.mod_lt _ (by decide))

end Sys2Proof.Machine
end

