-- ==== Sys2Proof/WellFormed.lean ====
section
/-!
DEFINITION. Which commands are well formed. A port never receives the last octet of a frame of more than 1033
octets: such a frame is discarded at its 1034th octet (R157), which is the other row, FRAME_OVERLENGTH_DISCARD.
Every other operand is legal by its type.
-/

namespace Sys2Proof

/-- The most octets a frame has when its last octet is received (R157). -/
def maxFrameOctets : Nat := 1033

/-- The command is one the world outside can give. -/
def Instr.wellFormed : Instr → Bool
  | .frameReceived _ octets => octets.length ≤ maxFrameOctets
  | _ => true

end Sys2Proof
end

