-- ==== Sys2Proof/Tests/Slice0.lean ====
section
/-!
SUPPORT. Tests. The expected results of the first part are the manual's worked examples and tables, cited at each. The
second part shows, for every obligation with hypotheses, a concrete state and operands that meet them, at a boundary
value where a clause has a range.
-/

namespace Sys2Proof.Tests

set_option Elab.async false

open Sys2Proof Sys2Proof.Machine

/-! ### A bank and a state -/

/-- Segment 0 of a bank: the stations of Table 1-5 (station 2 closed for entry), tiers, parameters and class 2 of the
worked fare (2.10), the bands of Table 1-8 and the territories of Table 1-9. -/
def lowWords : WordMem :=
  [(0, 7), (1, 960550824), (2, 5), (3, 2), (4, 3), (5, 3), (6, 0), (7, 0), (8, 3), (9, 1), (10, 5), (11, 1),
   (12, 1), (16, 120), (17, 150), (18, 1200), (19, 10), (20, 0), (21, 4), (22, 14400), (23, 120), (24, 5),
   (25, 3600), (26, 300), (32, 16777216), (33, 16778466), (34, 3100), (35, 16843352), (36, 16909128),
   (96, 2000), (97, 3100), (100, 65536150), (101, 196608110), (102, 80), (108, 1), (109, 0), (110, 0),
   (111, 0), (112, 0), (113, 0), (114, 1), (120, 16384), (121, 15749120), (122, 35405824), (123, 62935040),
   (124, 74727424), (128, 16384), (136, 16384), (160, 1073742824), (161, 1073807359), (162, 536871512),
   (163, 65535), (164, 1073807359), (165, 1073807359), (166, 1073807359), (167, 1073807359), (168, 0),
   (169, 2000), (170, 1), (171, 131137535), (172, 131074), (173, 65535)]

/-- The derived column of Table 1-7, no overrides. -/
def columnWords : WordMem := [(1536, 266084), (1537, 264834), (1538, 3100), (1539, 2600), (1540, 3940)]

/-- A deny list of one token, 9. -/
def denyWords : WordMem := [(8192, 0), (8193, 9)]

/-- The bank as loaded, before a check. -/
def loaded : WordMem := lowWords ++ denyWords

/-- The bank as a passed check leaves it. -/
def checked : WordMem := lowWords ++ columnWords ++ denyWords

/-- Line time of the worked examples of chapter 4, on service day 19002. -/
def now : LineTime := 1641852000

/-- A part in traffic: clock SET, bank A ACTIVE, Matcher READY, Sweeper IDLE. -/
def calm : State :=
  { clock := { set := true, lineSeconds := now }
    store := { bankA := { words := checked, state := .active, refs := 3 } }
    dramWritten := 4096
    holds := {}
    matcher := { readiness := .ready }
    sweeper := { state := .idle } }

/-- What a block that was granted its bucket in `calm` has read. -/
def reading : Reading := ⟨now, 15⟩

/-- `calm` with another bank B. -/
def withB (b : Bank) : State := { calm with store := { calm.store with bankB := b } }

/-- A record of token 5, whose bucket is 5, without a part. -/
def plain : TokenRecord := ⟨5, 19002, 420, 3, some ⟨1, 7, 1641851000⟩, 1641851000, none, none, none⟩

/-- Its open part: entered at station 1 of the example line under bank A. -/
def openA : OpenPart := ⟨⟨1, 7, 1641851000⟩, 2, .A, false, false⟩

/-- A closing part of kind COMPLETE that answers position 0 of verdict slot 0. -/
def closingA : ClosingPart := ⟨.complete ⟨1, 7, 1641851000⟩ ⟨4, 2, 1641851900⟩, 812, .A, 2, .verdict 0 0, {}⟩

/-- A recent-expiry part. -/
def recentA : RecentPart := ⟨⟨1, 7, 1641840000⟩, 0, .A, 1641848400, 700⟩

/-- `calm` with one record, in way 2 of bucket 5. -/
def withRecord (r : TokenRecord) : State := { calm with table := [(42, r)] }

/-- A tap of token 5 at a station, through gate 2, in a direction, at the clock's time. -/
def tapAt (station direction : Octet) : TapRecord := ⟨5, station, 2, direction, 2, now⟩

/-- The handling of a tap record at position 0 of slot 0. -/
def handlingOf (t : TapRecord) : Handling := ⟨.tap 0 0 40, t, .A, t.time, false, false, false⟩

/-- The Matcher in the hold of bucket 5 for a record. -/
def inHold (s : State) (h : Handling) : State :=
  { s with
    holds := { s.holds with matcher := .held 5 reading }
    matcher := { s.matcher with work := .waitHold h, frame := some ⟨0, 40, [], 1⟩ }
    slots := { matcherReserved := 1 }
    station := { s.station with verdicts := s.station.verdicts.set 0 ⟨.taken, 40, 77, [VerdictEntry.fresh]⟩ } }

/-- A frame in work whose next record is `t`. -/
def inFrame (s : State) (t : TapRecord) : State :=
  { s with
    matcher := { s.matcher with frame := some ⟨0, 40, [t], 0⟩ }
    station := { s.station with verdicts := s.station.verdicts.set 0 ⟨.taken, 40, 77, [VerdictEntry.fresh]⟩ } }

/-- A request frame from fare office node 0 to node 1. -/
def requestFrame (code : Octet) (args : List Octet) : Frame := buildFrame 4 1 0 77 ([code, 0, 3] ++ args)

/-- A request waits in the office intake queue. -/
def asked (s : State) (code : Octet) (args : List Octet) : State :=
  { s with office := { s.office with intake := [requestFrame code args] } }

/-- The job of `closingA`. -/
def jobA : Job := closingA.job 5

/-- The job of a kind, for token 5 under bank A. -/
def jobOf (journey : Journey) : Job := ⟨journey, 812, 5, .A, 2, .none, {}⟩

/-- The job of the worked fare (2.10), its stations 3 and 17 being 1 and 4 here. -/
def workedJob : Job := jobOf (.complete ⟨1, 0, 1641789720⟩ ⟨4, 0, 1641793000⟩)

/-- What stages 1 to 4 found for `jobA`: the worked fare. -/
def resultA : FareResult := ⟨2690, 1, 4, 290, 7⟩

/-- The FAU at the write-back of a job, over a record. -/
def atWriteBack (job : Job) (r : TokenRecord) : State :=
  { withRecord r with
    fau := { state := .waitHold job resultA }
    holds := { fau := .held 5 reading }
    station := { verdicts := (List.replicate 32 {}).set 0 ⟨.taken, 40, 77, [waitingEntry .exited {}]⟩ } }

/-! ### Worked examples and tables of the manual -/

/-- 9.1: the check of the nine octets "123456789" is 29B1 hexadecimal. -/
theorem test_check_of_the_nine_digits : crc [0x31, 0x32, 0x33, 0x34, 0x35, 0x36, 0x37, 0x38, 0x39] = 0x29B1 := by
  decide +kernel

/-- 4.2: the token 00A1B2C3D4E5F607 folds to 36992, bucket 128 of 4096 and 4224 of 8192 or 16384. -/
theorem test_fold_of_the_example_token :
    (tokenFold 0x00A1B2C3D4E5F607).toNat = 36992 ∧ 36992 % 4096 = 128 ∧ 36992 % 8192 = 4224 ∧ 36992 % 16384 = 4224 := by
  decide +kernel

/-- Table 1-7 and the words of Table 9-10 that hold it. -/
theorem test_derived_column_of_the_example_line :
    (List.range 5).map (farthest loaded) = [(3940, 4), (2690, 4), (3100, 0), (2600, 0), (3940, 0)] ∧
      (List.range 5).map (fun i => (derivedDistance checked i, derivedStation checked i)) =
        (List.range 5).map (farthest loaded) := by
  decide +kernel

/-- Table 1-7 with the override pairs (0, 4) at 3800 and (1, 3) at 2690. -/
theorem test_derived_column_with_overrides :
    (List.range 5).map (farthest (writeWords (writeWord loaded 6 2) 1024 [0x00040ED8, 0x01030A82])) =
      [(3800, 4), (2690, 3), (3100, 0), (2690, 1), (3800, 0)] := by
  decide +kernel

/-- Table 2-6: the worked fare, stage by stage. -/
theorem test_worked_fare :
    baseCharge checked 2690 = 455900 ∧ bandFactorAt checked 1641789720 = 20480 ∧ scaleBy 455900 20480 = 569875 ∧
      scaleBy 569875 8192 = 284938 ∧ toCents 284938 = 285 ∧
      computeFare checked workedJob.journey 2 = resultA := by
  decide +kernel

/-- Table 2-4. -/
theorem test_stepped_fares :
    ([1, 7, 10, 25, 100].map fun s => (steppedFare 0 s 285, steppedFare 1 s 285, steppedFare 2 s 285)) =
      [(285, 285, 285), (287, 287, 280), (290, 290, 280), (275, 300, 275), (300, 300, 200)] := by
  decide +kernel

/-- 3.8 and Table 3-6: charge 180, room 0, shares 50, 74 and 56. -/
theorem test_worked_charge_and_shares :
    chargeTracked 600 290 420 3 = ⟨180, 180, 600, 4, 0⟩ ∧ ownedLengths checked (pathSpans checked 1 4) = [750, 1100, 840, 0] ∧
      apportion checked 15 jobA.journey resultA 180 = [⟨0, 50⟩, ⟨1, 74⟩, ⟨2, 56⟩] := by
  decide +kernel

/-- 3.8: the refund of 130 divides as -36, -53 and -41, and with channel 1 disabled as -89 and -41. -/
theorem test_worked_refund :
    apportion checked 15 jobA.journey resultA (-130) = [⟨0, -36⟩, ⟨1, -53⟩, ⟨2, -41⟩] ∧
      apportion checked 13 jobA.journey resultA (-130) = [⟨0, -89⟩, ⟨2, -41⟩] := by
  decide +kernel

/-- Table 8-4: the loaded bank passes every step; with overlapping territories (8.7) it fails step 9. -/
theorem test_activation_check : checkFailure loaded = none ∧
    firstFailure (checkSteps.drop 1) (writeWords loaded 170 [0x00000001, 0x04B0FFFF]) = some 9 := by
  decide +kernel

/-- 9.2: a frame of 9 octets with an empty payload is well formed; one octet changed is not. -/
theorem test_frame_check : frameWellFormed (buildFrame 4 1 0 77 []) = true ∧
    frameWellFormed ((buildFrame 4 1 0 77 []).set 3 1) = false ∧ frameWellFormed [] = false := by
  decide +kernel

/-- Table 9-2: the fields of a tap record. -/
theorem test_tap_record :
    readTapRecord [0, 0xA1, 0xB2, 0xC3, 0xD4, 0xE5, 0xF6, 7, 17, 3, 2, 2, 0x61, 0xDD, 0xB2, 0xE0] =
      ⟨0x00A1B2C3D4E5F607, 17, 3, 2, 2, 1641919200⟩ := by
  decide +kernel

/-- No row of the table has bits. -/
theorem test_no_word_spells_a_command : decodeTableWord 16 0 = none := by decide

/-- R157: no port receives the last octet of a frame of 1034 octets. -/
theorem test_overlong_frame_is_ill_formed :
    (Instr.frameReceived .station (List.replicate 1034 0)).wellFormed = false ∧
      (Instr.frameReceived .station (List.replicate 1033 0)).wellFormed = true := by
  decide +kernel

/-! ### One step each -/

/-- What a test looks at in the next state. -/
def Outcome.get {α : Type} (o : Result) (f : State → α) : Option α :=
  match o with
  | .next t => some (f t)
  | .fault _ => none
  | .refused _ => none

/-- R30, R38, Table 2-6: the FAU's result of the worked fare. -/
theorem test_computation_of_the_worked_fare :
    Outcome.get (exec .computationComplete { calm with fau := { state := .computing workedJob } }) (·.fau.state) =
      some (.waitSettlement workedJob resultA) := by
  decide +kernel

/-- 3.8: the verdict of the worked write-back has charge 180 and cap room 0, and spent today is 600. -/
theorem test_worked_write_back :
    Outcome.get (exec .writeBack (atWriteBack jobA { plain with closing := some closingA })) (fun t =>
      (t.verdictAt 0 0, (t.way 5 2).map fun r => (r.spentToday, r.journeysToday))) =
      some (some ⟨true, some .exited, {}, 180, 0⟩, some (600, 4)) := by
  decide +kernel

/-- R98, R105: a first entry of a token is ENTERED, with charge 0 and cap room 65535. -/
theorem test_first_entry :
    Outcome.get (exec .tapHoldGranted (inHold calm (handlingOf (tapAt 1 1)))) (fun t =>
      (t.verdictAt 0 0, t.table.map fun e => (e.1, e.2.token, e.2.openPart.isSome), t.station.readySlots)) =
      some (some ⟨true, some .entered, {}, 0, 65535⟩, [(40, 5, true)], [0]) := by
  decide +kernel

/-- R100: an exit at the entry station within the cancel window is CANCELLED at once. -/
theorem test_cancelled_exit :
    Outcome.get (exec .tapHoldGranted (inHold
      (withRecord { plain with openPart := some { openA with entry := ⟨1, 7, 1641851900⟩ } })
      (handlingOf (tapAt 1 2)))) (fun t => (t.verdictAt 0 0, t.fau.jobs.length, t.slots.matcherReserved)) =
      some (some ⟨true, some .cancelled, {}, 0, 65535⟩, 1, 0) := by
  decide +kernel

/-- R104: an exit by a token without a record is UNMATCHED and waits. -/
theorem test_unmatched_exit :
    Outcome.get (exec .tapHoldGranted (inHold calm (handlingOf (tapAt 4 2)))) (fun t =>
      (t.verdictAt 0 0).map fun e => (e.kind, e.complete)) = some (some (some .unmatched, false)) := by
  decide +kernel

/-- R117: an open part entered 14400 seconds ago is due. -/
theorem test_expiry_of_a_due_part :
    Outcome.get (exec .sweepHoldGranted { withRecord
        { plain with openPart := some { openA with entry := ⟨1, 7, 1641837600⟩ } } with
      sweeper := { state := .burst, pointer := 5 }, holds := { sweeper := .held 5 reading } }) (fun t =>
      (t.fau.jobs.map (·.journey), t.sweeper.pointer)) = some ([.expired ⟨1, 7, 1641837600⟩], 6) := by
  decide +kernel

/-- 8.7, T0 and T6: CLEAR SEGMENT on a RETIRING bank is PROTECTED and captured; bank code 3 is BAD_ARGUMENT. -/
theorem test_refused_clear_and_schedule :
    Outcome.get (exec .clearSegment (asked (withB { state := .retiring, refs := 3 }) 4 [1, 0])) (fun t =>
      ((t.office.replies.getD 0 {}).status, t.responder.fault.kind, t.responder.fault.detailHigh)) =
        some (.isProtected, .writeProtected, 1) ∧
    Outcome.get (exec .schedule (asked calm 9 [3, 0x61, 0xDD, 0xB2, 0xE0])) (fun t =>
      (t.office.replies.getD 0 {}).status) = some .badArgument := by
  decide +kernel

/-- R57, R177: channel 0 cannot be disabled, and bits 4..7 are disregarded. -/
theorem test_set_channels : Outcome.get (exec .setChannels (asked calm 17 [0xF4])) (fun t =>
    (t.fau.channels, (t.office.replies.getD 0 {}).data)) = some (5, [5]) := by
  decide +kernel

/-- R57, R177, 3.8: a mask that is set once the bucket is granted does not reach the write-back, which reports the
shares 50, 74 and 56 of all four channels. -/
theorem test_set_channels_after_the_grant :
    (let s := atWriteBack jobA { plain with closing := some closingA }
     Outcome.get (exec .writeBack { s with fau := { s.fau with channels := 13 } }) fun t =>
       t.office.settlements.map (·.shares)) = some [[⟨0, 50⟩, ⟨1, 74⟩, ⟨2, 56⟩]] := by
  decide +kernel

/-- R92: hold now is the clock at the grant, whatever it reads since. -/
theorem test_hold_now_is_of_the_grant :
    (let s := inHold calm (handlingOf (tapAt 1 1))
     Outcome.get (exec .tapHoldGranted { s with clock := { s.clock with lineSeconds := now + 9 } }) fun t =>
       t.table.map fun e => e.2.lastActivity) = some [now] := by
  decide +kernel

/-- R141: the unit that a clear was clearing at a reset may be left clear in part, but not wholly. -/
theorem test_broken_clear_leaves_an_uncleared_unit :
    clearPart [(0, 5), (1, 7)] 0 1 = [(1, 7)] ∧ clearPart [(0, 5), (1, 7)] 0 15 = [(0, 5), (1, 7)] ∧
      unitClear (clearPart [(0, 5)] 0 1) 0 = false := by
  decide +kernel

/-- Tables 2-1, 5-2, 9-6 and 9-9: octet 9 of STATUS is 4, WRITE_BACK, for a FAU whose bucket is granted, and octet 8 is
5, HOLDING, for a Matcher whose bucket is; before the grant they are 3 and 4, WAIT_HOLD. -/
theorem test_status_of_granted_holds :
    ([{ calm with
        fau := { state := .waitHold jobA resultA }, holds := { fau := .held 5 reading, matcher := .held 7 reading }
        matcher := { readiness := .ready, work := .waitHold (handlingOf (tapAt 4 2)) } },
      { calm with
        fau := { state := .waitHold jobA resultA }, holds := { fau := .waiting 9, matcher := .waiting 9, sweeper := .held 9 reading }
        matcher := { readiness := .ready, work := .waitHold (handlingOf (tapAt 4 2)) } }].map fun s =>
      Outcome.get (exec .status (asked s 1 [])) fun t =>
        ((t.office.replies.getD 0 {}).data.length, fieldAt (t.office.replies.getD 0 {}).data 8 2)) =
      [some (60, 5 * 256 + 4), some (60, 4 * 256 + 3)] := by
  decide +kernel

/-- R1, R93: a duplicate of the last tap whose judging bank has been replaced at count 0 is begun again, with no lookup
in that bank, and its record stands. -/
theorem test_replaced_judging_bank_is_not_looked_up :
    Outcome.get (exec .tapHoldGranted (inHold (withRecord { plain with lastTap := some ⟨4, 2, now⟩ })
        { handlingOf (tapAt 4 2) with judging := .B })) (fun t => (t.matcher.work, t.holds.matcher, t.table)) =
      some (.rejudge { handlingOf (tapAt 4 2) with judging := .B }, .none,
        [(42, { plain with lastTap := some ⟨4, 2, now⟩ })]) := by
  decide +kernel

/-- R38: the accumulator holds A2 of the worked fare in COMPUTING (Table 2-6) and nothing after it. -/
theorem test_accumulator_in_computing :
    Outcome.get (exec .jobTakenIntoWork { calm with fau := { jobs := [workedJob] } }) (·.fau.accumulator) =
        some 284938 ∧
      Outcome.get (exec .computationComplete
        { calm with fau := { state := .computing workedJob, accumulator := 284938 } }) (·.fau.accumulator) = some 0 := by
  decide +kernel

/-! ### Witnesses: states that meet the hypotheses of the obligations -/

/-- A part with every block at work: the FAU holds bucket 5, the Matcher waits for it, the Sweeper holds bucket 9. -/
def busy : State :=
  { atWriteBack jobA { plain with closing := some closingA } with
    holds := { fau := .held 5 reading, matcher := .waiting 5, sweeper := .held 9 reading }
    matcher := { readiness := .ready, work := .waitHold (handlingOf (tapAt 4 2)), frame := some ⟨0, 40, [], 1⟩ }
    slots := { matcherReserved := 1 }
    sweeper := { state := .burst, pointer := 9 }
    pending := [.writeBack] }

/-- A tap frame from node 40 to node 1, of one record that is read from zeros, and one whose count octet is 5. -/
def tapFrame : Frame := buildFrame 1 1 40 77 (1 :: List.replicate 16 0)
def badTapFrame : Frame := buildFrame 1 1 40 77 (5 :: List.replicate 16 0)

/-- The station intake queue of `calm` holds some frames. -/
def stationQueue (frames : List Frame) : State := { calm with station := { calm.station with intake := frames } }

/-- `calm` with the FAU in a state. -/
def fauIn (f : FauState) : State := { calm with fau := { state := f } }

/-- A settlement, to fill the queue with. -/
def settled : Settlement := ⟨0, jobA.journey, {}, 5, 2, 7, 2690, 290, 180, 600, []⟩

/-- A part whose start pass of a kind holds bucket `b`. -/
def passing (kind : PassKind) (b : Nat) : State :=
  { calm with
    matcher := {}
    sweeper := { passKind := kind, passBucket := b }
    holds := { sweeper := .held b reading } }

theorem test_meets_StepRunsTheFrontCommand : busy.pending = [.writeBack] := by decide

/-- The last period of a second, of a millisecond, and one before both; the two may coincide. -/
theorem test_meets_IdleStepIsOneReferencePeriod :
    calm.pending = [] ∧ calm.clock.phase + 1 < calm.clock.length ∧ calm.clock.msDivider + 1 < 10000 ∧
      { calm.clock with phase := 9999999 }.length ≤ { calm.clock with phase := 9999999 }.phase + 1 ∧
      10000 ≤ { calm.clock with msDivider := 9999 }.msDivider + 1 := by decide

theorem test_meets_StoresStayCanonical : busy.storesCanonical ∧ ∃ t, step busy = .next t :=
  ⟨by unfold State.storesCanonical; decide +kernel, _, rfl⟩

theorem test_meets_QueuesStayWithinCapacity : busy.withinCapacity ∧ ∃ t, step busy = .next t :=
  ⟨by unfold State.withinCapacity; decide +kernel, _, rfl⟩

theorem test_meets_PauseConditionsFollowTheirThresholds : busy.pausesSound ∧ ∃ t, step busy = .next t :=
  ⟨by unfold State.pausesSound conditionSound; decide +kernel, _, rfl⟩

theorem test_meets_JobSlotsNeverOverflow : busy.slotsSound ∧ ∃ t, step busy = .next t :=
  ⟨⟨by decide, ⟨rfl, .inl rfl⟩, by decide, by decide⟩, _, rfl⟩

theorem busy_banksSound : busy.banksSound :=
  ⟨by decide +kernel, by decide +kernel, fun c h => by cases h⟩

theorem test_meets_BankStatesStaySound :
    busy.banksSound ∧ (∃ t, step busy = .next t) ∧ busy.activeBank.isSome = true ∧
      let s := inHold calm (handlingOf (tapAt 4 1))
      s.banksSound ∧ (∃ t, step s = .next t) ∧ s.judgedInForce ∧ s.judgingInUse (handlingOf (tapAt 4 1)) := by
  refine ⟨busy_banksSound, ⟨_, rfl⟩, by decide, ⟨by decide +kernel, by decide +kernel, fun c h => by cases h⟩, ⟨_, rfl⟩,
    fun h hh _ => ?_, rfl, .inl rfl⟩
  cases hh
  decide +kernel

theorem test_meets_HoldsStayExclusive : busy.holdsExclusive ∧ ∃ t, step busy = .next t :=
  ⟨fun b x y hx hy => by
    cases x <;> cases y <;> simp_all [busy, Holds.get]
    all_goals omega, _, rfl⟩

theorem busy_registersInRange : busy.registersInRange := by
  refine ⟨.inl rfl, by decide, by decide, by decide, by decide, by decide, by decide, ⟨by decide, ?_⟩, by decide, ?_⟩
  · intro who b r h
    cases who <;> cases h <;> rfl
  · intro c h
    cases h

theorem test_meets_RegistersStayInRange :
    busy.registersInRange ∧ busy.withinCapacity ∧ busy.responder.discardedSettlements ≤ 64 ∧
      ∃ t, step busy = .next t :=
  ⟨busy_registersInRange, by unfold State.withinCapacity; decide +kernel, by decide, _, rfl⟩

/-- An ACTIVE bank beside one in CHECKING whose check ends. -/
theorem test_meets_FrozenBanksKeepTheirWords :
    let s := withB { words := loaded, state := .checking }
    s.banksSound ∧ (s.bank .A).state ≠ .staging ∧ (s.bank .A).state ≠ .checking ∧ (s.bank .B).state ≠ .staging ∧
      ∃ t, exec .activationCheckEnd s = .next t :=
  ⟨⟨by decide +kernel, by decide +kernel, fun c h => by cases h⟩, by decide, by decide, by decide, _, rfl⟩

theorem test_meets_RecordsChangeOnlyInTheHeldBucket :
    (inHold calm (handlingOf (tapAt 1 1))).holds.matcher = .held 5 reading ∧ busy.holds.fau = .held 5 reading ∧
      busy.holds.sweeper = .held 9 reading ∧ (passing .powerUp 4095).holds.sweeper = .held 4095 reading ∧
      busy.holds.matcher = .waiting 5 ∧ calm.holds.fau = .none ∧ calm.holds.sweeper = .none := by
  decide

/-- `calm` with a clear of segment 15 of bank B in flight, at its last unit. -/
def clearing : State := { calm with store := { calm.store with
  bankB := { words := [(16382, 5), (16383, 7)] }, clear := some ⟨.B, 15, 255, 7⟩ } }

/-- The clear in flight of `clearing` may be broken off by a reset. -/
theorem test_meets_clear_in_flight :
    clearing.store.clear = some ⟨.B, 15, 255, 7⟩ ∧ (clearing.bank .B).state ≠ .checking ∧
      (clearing.bank .A).state ≠ .checking ∧ (⟨.B, 15, 255, 7⟩ : Clear).reached ≤ 255 ∧
      wordAt (clearing.words .B) (1024 * 15 + 4 * 255 + 2) ≠ 4294967295 := by
  decide +kernel

/-- A bank in CHECKING, one RETIRING and one in neither, with no clear in flight. -/
theorem test_meets_PowerUpState :
    ((withB { state := .checking }).bank .B).state = .checking ∧ ((withB { state := .retiring }).bank .B).state = .retiring ∧
      ((withB { state := .scheduled }).bank .A).state = .active ∧ (withB {}).store.clear = none := by
  decide

theorem test_meets_RestartState :
    ((withB { state := .checking }).bank .B).state = .checking ∧ ((withB { state := .retiring }).bank .B).state ≠ .checking ∧
      (withB { state := .retiring }).store.clear = none := by
  decide

/-- A bank whose time the boundary brings, one whose time is a second later, and a WAITING Matcher. -/
theorem test_meets_SecondBoundaryStepsTheClock :
    calm.clock.set = true ∧ calm.sweeper.state ≠ .startPass ∧
      ((withB { state := .scheduled, activation := some (now + 1) }).bank .B).state = .scheduled ∧
      (now + 1).toNat ≤ (calm.clock.lineSeconds + 1).toNat ∧ (calm.clock.lineSeconds + 1).toNat < (now + 2).toNat ∧
      { calm.matcher with readiness := Readiness.waiting }.readiness = .waiting ∧ calm.activeBank.isSome = true ∧
      State.reset.clock.set = false := by
  decide

/-- A pause of 20 that is counted to 20, and to 19. -/
theorem test_meets_PauseCountsTicksAndRunsOut :
    (⟨.pause, .continuous, 20, 0, 0, 0, false, 0, 20, .powerUp, 0, 0⟩ : Sweeper).state = .pause ∧
      (20 : BitVec 16).toNat ≤ 20 ∧ 19 < (20 : BitVec 16).toNat ∧ calm.sweeper.state ≠ .pause := by
  decide

/-- Frames for the engine and for node 3; queues of 31 and 32, and of 15 and 16. -/
theorem test_meets_FramesAreRoutedOrDiscarded_wellFormed :
    frameWellFormed tapFrame = true ∧ frameDest tapFrame = calm.node ∧ frameKind tapFrame = 1 ∧
      frameWellFormed (requestFrame 1 []) = true ∧ frameDest (requestFrame 1 []) = calm.node ∧
      frameKind (requestFrame 1 []) = 4 ∧ frameWellFormed (buildFrame 1 3 40 0 []) = true ∧
      frameDest (buildFrame 1 3 40 0 []) ≠ calm.node ∧
      (stationQueue (List.replicate 31 tapFrame)).station.intake.length < 32 ∧
      32 ≤ (stationQueue (List.replicate 32 tapFrame)).station.intake.length ∧ calm.office.passUp.length < 16 ∧
      calm.office.intake.length < 16 ∧ calm.station.passDown.length < 16 := by
  decide +kernel

theorem test_meets_FramesAreRoutedOrDiscarded_illFormed : frameWellFormed (buildFrame 1 1 40 77 [] ++ [0]) = false := by
  decide +kernel

theorem test_meets_PausesAndEndsLetThePortsChoose_pauses :
    { calm.station with farEndPause := true }.farEndPause = true ∧
      { calm.office with sending := some (.passThrough tapFrame) }.sending ≠ none := by
  decide +kernel

/-- A ready verdict slot and a waiting frame at one port; a ready reply, a settlement and a frame at the other. -/
theorem test_meets_PortsBeginFramesByTurn :
    (∀ p : StationPort,
      p = { (inFrame calm (tapAt 1 1)).station with readySlots := [0], passDown := [tapFrame] } →
        p.farEndPause = false ∧ p.sending = none ∧ (p.verdicts[0]?).isSome = true ∧ p.turnVerdicts = true ∧
          { p with turnVerdicts := false }.turnVerdicts = false) ∧
    ∀ p : OfficePort, p = { calm.office with settlements := [settled], passUp := [tapFrame] } →
      p.farEndPause = false ∧ p.sending = none ∧ p.readyReplies = [] ∧ (p.replies[7]?).isSome = true ∧
        p.turnSettlements = true ∧ { p with turnSettlements := false }.turnSettlements = false := by
  refine ⟨fun p h => ?_, fun p h => ?_⟩ <;> subst h <;> decide +kernel

theorem test_meets_PausesAndEndsLetThePortsChoose_ends :
    { calm.station with sending := some (.verdict 31 []) }.sending = some (.verdict 31 []) ∧
      { calm.station with sending := some (.passThrough tapFrame) }.sending = some (.passThrough tapFrame) ∧
      { calm.office with sending := some (.settlement []) }.sending = some (.settlement []) ∧
      { calm.office with sending := some (.passThrough []) }.sending = some (.passThrough []) ∧
      { calm.office with sending := some (.reply 7 []) }.sending = some (.reply 7 []) ∧
      { calm.responder with restartPending := some 7 }.restartPending = some 7 ∧
      calm.responder.restartPending ≠ some 7 := by
  decide +kernel

/-- A payload of 1024 octets. -/
theorem test_meets_BuiltFramesReadBack : (List.replicate 1024 (255 : Octet)).length ≤ 1024 := by decide +kernel

/-- A frame of one record, and one whose count octet is 5. -/
theorem test_meets_TapFrameClaimsAVerdictSlot :
    (∀ f : Frame, f = tapFrame ∨ f = badTapFrame →
      (stationQueue [f]).matcher.work = .none ∧ (stationQueue [f]).matcher.frame = none ∧
        (stationQueue [f]).station.intake = [f] ∧
        freePlace VerdictSlot.state (stationQueue [f]).station.verdicts = some 0) ∧
    tapFrameMalformed (framePayload tapFrame) = false ∧ tapFrameMalformed (framePayload badTapFrame) = true := by
  refine ⟨fun f h => ?_, by decide +kernel, by decide +kernel⟩
  rcases h with rfl | rfl <;> decide +kernel

/-- A Matcher that is not READY, a token of 0, station 5 of five, and the denied token 9 at station 4. -/
theorem test_meets_RefusedRecordsAreAnsweredAtOnce :
    let s := inFrame calm (tapAt 1 1)
    let n := inFrame State.reset (tapAt 1 1)
    (n.matcher.work = .none ∧ n.matcher.frame = some ⟨0, 40, [tapAt 1 1], 0⟩ ∧ n.assistWaits = false ∧
        (n.verdictAt 0 0).isSome = true ∧ n.slots.matcherRequest = .none ∧ n.matcher.readiness ≠ .ready) ∧
      s.matcher.work = .none ∧ s.matcher.frame = some ⟨0, 40, [tapAt 1 1], 0⟩ ∧ s.assistWaits = false ∧
      (s.verdictAt 0 0).isSome = true ∧ s.activeBank = some .A ∧ s.slots.matcherRequest = .none ∧
      (s.slots.matcherReserved = 0 ∧ s.slots.sweeperRequest ≠ .waiting) ∧ s.matcher.readiness = .ready ∧
      tapMalformed { tapAt 1 1 with token := 0 } = true ∧ tapMalformed (tapAt 5 1) = false ∧
      stationCount (s.words .A) ≤ (tapAt 5 1).station.toNat ∧ tapMalformed { tapAt 4 1 with token := 9 } = false ∧
      (tapAt 4 1).station.toNat < stationCount (s.words .A) ∧ denied (s.words .A) 9 = true := by
  decide +kernel

/-- A tap one second ahead of the clock, and one at it. -/
theorem test_meets_AdmittedRecordsAskForASlot :
    let s := inFrame calm (tapAt 4 1)
    s.matcher.work = .none ∧ s.matcher.frame = some ⟨0, 40, [tapAt 4 1], 0⟩ ∧ s.assistWaits = false ∧
      s.matcher.readiness = .ready ∧ s.activeBank = some .A ∧ tapMalformed (tapAt 4 1) = false ∧
      (tapAt 4 1).station.toNat < stationCount (s.words .A) ∧ denied (s.words .A) (tapAt 4 1).token = false ∧
      s.slots.matcherReserved = 0 ∧
      s.clock.lineSeconds.toNat < (now + 1).toNat ∧ (tapAt 4 1).time.toNat ≤ s.clock.lineSeconds.toNat := by
  decide +kernel

theorem test_meets_GrantedSlotsSeekTheBucket :
    (⟨.granted, .none, 1, 0⟩ : Slots).matcherRequest = .granted ∧ (⟨.none, .granted, 0, 1⟩ : Slots).sweeperRequest = .granted ∧
      { calm.sweeper with state := SweepState.waitSlot }.state = .waitSlot ∧
      (passing .restart 0).sweeper.state = .startPass := by
  decide

theorem test_meets_ClosingPartsWaitAndDuplicatesTouchLittle_closing :
    let r := { plain with closing := some closingA }
    let s := inHold (withRecord r) (handlingOf (tapAt 4 2))
    s.matcher.work = .waitHold (handlingOf (tapAt 4 2)) ∧ s.holds.matcher = .held 5 reading ∧ s.lookup 5 5 = some (2, r) ∧
      r.closing.isSome = true := by
  decide +kernel

/-- The Matcher in the hold for a tap of token 5 at station 4, over a record. -/
theorem inTapHold_of (r : TokenRecord) (t : TapRecord) :
    (inHold (withRecord r) (handlingOf t)).inTapHold 5 reading (handlingOf t) 0 0 40 :=
  ⟨rfl, rfl, rfl, rfl, rfl⟩

/-- A tap 4 seconds after the last tap, under a debounce window of 5. -/
theorem test_meets_ClosingPartsWaitAndDuplicatesTouchLittle_duplicate :
    let l : Leg := ⟨4, 2, now - 4⟩
    let r := { plain with lastTap := some l }
    let h := handlingOf (tapAt 4 2)
    let s := inHold (withRecord r) h
    s.inTapHold 5 reading h 0 0 40 ∧ s.judgingInUse h ∧ s.lookup 5 h.tap.token = some (2, r) ∧ r.closing = none ∧
      l.station = h.tap.station ∧ l.gate = h.tap.gate ∧
      (h.time.toNat - l.time.toNat) + (l.time.toNat - h.time.toNat) < debounceWindow (s.words h.judging) :=
  ⟨inTapHold_of _ _, ⟨rfl, .inl rfl⟩, by decide +kernel⟩

/-- A second entry at the open station 4, and an entry at the closed station 2. -/
theorem test_meets_EntryOpensAJourney :
    (∀ x : Octet, x = 4 ∨ x = 2 →
      let r := { plain with openPart := some openA }
      let h := handlingOf (tapAt x 1)
      let s := inHold (withRecord r) h
      s.inTapHold 5 reading h 0 0 40 ∧ s.tapFinds 5 h 2 r ∧ h.tap.direction = 1 ∧ s.judgingActive h ∧
        openForEntry (s.words h.judging) h.tap.station.toNat = decide (x = 4)) ∧
    { plain with openPart := none }.openPart = none := by
  refine ⟨fun x hx => ?_, rfl⟩
  rcases hx with rfl | rfl <;>
    exact ⟨inTapHold_of _ _, ⟨by decide +kernel, rfl, by decide +kernel, fun _ => ⟨rfl, .inl rfl⟩⟩, rfl, ⟨rfl, rfl⟩,
      by decide +kernel⟩

/-- An exit at station 4, and one at the entry station at the end of the cancel window of 120 seconds. -/
theorem test_meets_ExitClosesTheJourney :
    (∀ x : Octet, x = 4 ∨ x = 1 →
      let o := { openA with entry := ⟨1, 7, now - 120⟩ }
      let r := { plain with openPart := some o }
      let h := handlingOf (tapAt x 2)
      let s := inHold (withRecord r) h
      s.inTapHold 5 reading h 0 0 40 ∧ s.tapFinds 5 h 2 r ∧ r.openPart = some o ∧ h.tap.direction = 2 ∧
        now.toNat - o.entry.time.toNat ≤ cancelWindow (s.words o.bank)) := by
  intro x hx
  rcases hx with rfl | rfl <;>
    exact ⟨inTapHold_of _ _, ⟨by decide +kernel, rfl, by decide +kernel, fun _ => ⟨rfl, .inl rfl⟩⟩, by decide +kernel⟩

/-- A recent-expiry part at the end of the correction window of 3600 seconds, and one a second past it. -/
theorem test_meets_ExitWithoutAJourneyCorrectsOrIsUnmatched :
    (∀ p : RecentPart, p = recentA ∨ p = { recentA with expiryTime := 1641848399 } →
      let r := { plain with recent := some p }
      let h := handlingOf (tapAt 4 2)
      let s := inHold (withRecord r) h
      s.inTapHold 5 reading h 0 0 40 ∧ s.tapFinds 5 h 2 r ∧ r.openPart = none ∧ h.tap.direction = 2 ∧
        s.judgingActive h) ∧
    serviceDay recentA.expiryTime = serviceDay now ∧
    now.toNat - recentA.expiryTime.toNat = correctionWindow (calm.words .A) := by
  refine ⟨fun p hp => ?_, by decide +kernel, by decide +kernel⟩
  rcases hp with rfl | rfl <;>
    exact ⟨inTapHold_of _ _, ⟨by decide +kernel, rfl, by decide +kernel, fun _ => ⟨rfl, .inl rfl⟩⟩, rfl, rfl, rfl, rfl⟩

/-- An ASSIST EXIT handed over, at stations 4 and 5 of five, and in the hold over a record with and without an open
part. -/
theorem test_meets_AssistExitIsHandledByTheMatcher :
    let q : State := { calm with responder := { inWork := some (.assistHanded 5 4 2 7) } }
    let h : Handling := assistHandling 5 4 2 7 .A now
    let s := fun (r : TokenRecord) => { inHold (withRecord r) h with slots := { matcherReserved := 1 } }
    q.matcher.work = .none ∧ (q.office.replies[7]?).isSome = true ∧ q.matcher.readiness = .ready ∧
      State.reset.matcher.readiness ≠ .ready ∧ q.activeBank = some .A ∧
      stationCount (q.words .A) ≤ (5 : Octet).toNat ∧ (4 : Octet).toNat < stationCount (q.words .A) ∧
      (s plain).matcher.work = .waitHold h ∧ (s plain).holds.matcher = .held 5 reading ∧ h.origin = .assist 7 ∧
      (s plain).slots.matcherRequest = .none ∧ ((s plain).office.replies[7]?).isSome = true ∧
      (s plain).lookup 5 5 = some (2, plain) ∧
      (s { plain with openPart := some openA }).lookup 5 5 = some (2, { plain with openPart := some openA }) := by
  decide +kernel

/-- Bucket 5 with one record in all its ways. -/
def fullOf (r : TokenRecord) : State := { calm with table := (List.range 8).map fun w => (40 + w, r) }

/-- A record of token 4101, whose bucket is 5 too. -/
def stranger : TokenRecord := { plain with token := 4101 }

/-- The Matcher in the hold for a tap of token 5, which has no record, over bucket 5 with no record and over it full. -/
theorem newToken (r : TokenRecord) (h : Handling) (ht : h.tap.token = 5) (ho : h.origin = .tap 0 0 40)
    (hr : r.token = 4101) :
    ((inHold calm h).inTapHold 5 reading h 0 0 40 ∧ (inHold calm h).lookup 5 h.tap.token = none) ∧
      (inHold (fullOf r) h).inTapHold 5 reading h 0 0 40 ∧ (inHold (fullOf r) h).lookup 5 h.tap.token = none := by
  refine ⟨⟨⟨rfl, rfl, ho, rfl, rfl⟩, by rw [ht]; rfl⟩, ⟨rfl, rfl, ho, rfl, rfl⟩, ?_⟩
  have hw : ∀ w < 8, (inHold (fullOf r) h).way 5 w = some r := by
    intro w hw
    interval_cases w <;> rfl
  simp only [State.lookup, List.findSome?_eq_none_iff]
  intro w h8
  rw [hw w (List.mem_range.1 h8), ht]
  simp [hr]

/-- An entry at the open station 4 and at the closed station 2, in all four placements, under a bank that is ACTIVE and
one that is not. -/
theorem test_meets_EntryOfANewTokenTakesAWay :
    (∀ r h, r.token = 4101 → h = handlingOf (tapAt 4 1) ∨ h = handlingOf (tapAt 2 3) →
      (inHold calm h).inTapHold 5 reading h 0 0 40 ∧ (inHold calm h).lookup 5 h.tap.token = none ∧
        (inHold (fullOf r) h).inTapHold 5 reading h 0 0 40 ∧ (inHold (fullOf r) h).lookup 5 h.tap.token = none ∧
        (h.tap.direction = 1 ∨ h.tap.direction = 3)) ∧
      openForEntry (calm.words .A) 4 = true ∧ openForEntry (calm.words .A) 2 = false ∧
      (inHold calm (handlingOf (tapAt 4 1))).judgingActive (handlingOf (tapAt 4 1)) ∧
      (calm.bank .B).state = .staging ∧
      ((withB { state := .retiring }).bank .B).state = .retiring ∧ calm.placement 5 (dayOf now) = .free 0 ∧
      (fullOf stranger).placement 5 (dayOf now) = .evict 0 stranger ∧
      (fullOf { stranger with openPart := some openA }).placement 5 (dayOf now) =
        .displace 0 { stranger with openPart := some openA } openA ∧
      (fullOf { stranger with closing := some closingA }).placement 5 (dayOf now) = .full := by
  refine ⟨fun r h hr hh => ?_, by decide +kernel, by decide +kernel, ⟨rfl, rfl⟩, by decide +kernel⟩
  rcases hh with rfl | rfl
  · have := newToken r (handlingOf (tapAt 4 1)) rfl rfl hr
    exact ⟨this.1.1, this.1.2, this.2.1, this.2.2, .inl rfl⟩
  · have := newToken r (handlingOf (tapAt 2 3)) rfl rfl hr
    exact ⟨this.1.1, this.1.2, this.2.1, this.2.2, .inr rfl⟩

/-- An exit in the placements of the last theorem, with one reservation and with two. -/
theorem test_meets_ExitOfANewTokenTakesAWay :
    let h := handlingOf (tapAt 4 2)
    (∀ r, r.token = 4101 → (inHold (fullOf r) h).inTapHold 5 reading h 0 0 40 ∧ (inHold (fullOf r) h).lookup 5 h.tap.token = none) ∧
      h.tap.direction = 2 ∧ (inHold (fullOf stranger) h).slots.matcherReserved < 2 ∧
      2 ≤ (⟨.none, .none, 2, 0⟩ : Slots).matcherReserved ∧ 0 < (inHold (fullOf stranger) h).freeSlots ∧
      ({ calm with fau := { jobs := List.replicate 8 jobA } } : State).freeSlots = 0 := by
  refine ⟨fun r hr => (newToken r _ rfl rfl hr).2, by decide +kernel⟩

/-- An entry and an exit of a record judged under bank B, which is STAGING or RETIRING, an entry under bank A, which has
passed another check since, a tap at the last tap's station and gate, and the record begun again. -/
theorem test_meets_FailedClaimBeginsTheRecordAgain :
    (∀ x : Octet, x = 1 ∨ x = 2 →
      let h := { handlingOf (tapAt 4 x) with judging := .B }
      let s := inHold (withRecord plain) h
      s.inTapHold 5 reading h 0 0 40 ∧ s.tapFinds 5 h 2 plain ∧ ¬s.judgingInUse h ∧ plain.openPart = none ∧
        plain.recent = none) ∧
      (let h := { handlingOf (tapAt 4 1) with judging := .B }
      let s : State := { inHold (withRecord plain) h with store := { calm.store with
        bankB := { words := checked, state := .retiring, refs := 1 } } }
      s.inTapHold 5 reading h 0 0 40 ∧ s.tapFinds 5 h 2 plain ∧ s.judgingInUse h ∧ ¬s.judgingActive h ∧
        openForEntry (s.words h.judging) h.tap.station.toNat = true) ∧
      (let h := { handlingOf (tapAt 4 1) with lapsed := true }
      let s := inHold (withRecord plain) h
      s.inTapHold 5 reading h 0 0 40 ∧ s.tapFinds 5 h 2 plain ∧ ¬s.judgingInUse h ∧
        (s.bank h.judging).state = .active) ∧
      (let h := { handlingOf (tapAt 4 2) with judging := .B }
      let r := { plain with lastTap := some ⟨4, 2, now⟩ }
      let s := inHold (withRecord r) h
      s.inTapHold 5 reading h 0 0 40 ∧ s.lookup 5 h.tap.token = some (2, r) ∧ r.closing = none ∧ h.repeatsTap r ∧
        ¬s.judgingInUse h) ∧
      let h := { handlingOf (tapAt 4 1) with judging := .B }
      let s : State := { inHold calm h with matcher := { readiness := .ready, work := .rejudge h } }
      s.matcher.work = .rejudge h ∧ s.activeBank = some .A ∧ h.origin = .tap 0 0 40 ∧
        (s.verdictAt 0 0).isSome = true ∧ s.slots.matcherRequest = .none ∧ 0 < s.slots.matcherReserved ∧
        h.tap.station.toNat < stationCount (s.words .A) ∧ denied (s.words .A) h.tap.token = false ∧
        stationCount (s.words .A) ≤ (5 : Octet).toNat ∧ denied (s.words .A) 9 = true := by
  have staging : ∀ r h, h.judging = .B → ¬(inHold (withRecord r) h).judgingInUse h := by
    intro r h hj
    unfold State.judgingInUse
    rw [hj]
    exact fun hc => hc.2.elim (fun h => by cases h) (fun h => by cases h)
  have elsewhere : ∀ h : Handling, h.tap.station = 4 → ¬h.repeatsTap plain := by
    rintro h hs ⟨l, hl, hst, _⟩
    cases hl
    rw [hs] at hst
    exact absurd hst (by decide)
  refine ⟨fun x hx => ?_, ?_, ?_, ?_, by decide +kernel⟩
  · refine ⟨⟨rfl, rfl, rfl, rfl, rfl⟩, ⟨?_, rfl, ?_, fun hr => absurd hr (elsewhere _ rfl)⟩, staging _ _ rfl, rfl, rfl⟩ <;>
      rcases hx with rfl | rfl <;> decide +kernel
  · exact ⟨⟨rfl, rfl, rfl, rfl, rfl⟩, ⟨by decide +kernel, rfl, by decide +kernel, fun _ => ⟨rfl, .inr rfl⟩⟩,
      ⟨rfl, .inr rfl⟩, (fun hc => by cases hc.2), by decide +kernel⟩
  · exact ⟨⟨rfl, rfl, rfl, rfl, rfl⟩,
      ⟨by decide +kernel, rfl, by decide +kernel, fun hr => absurd hr (elsewhere _ rfl)⟩, (fun hc => by cases hc.1), rfl⟩
  · exact ⟨⟨rfl, rfl, rfl, rfl, rfl⟩, by decide +kernel, rfl, ⟨_, rfl, rfl, rfl⟩, staging _ _ rfl⟩

/-- All four placements: an empty way, eight records to evict from, eight open parts, eight closing parts. -/
theorem test_meets_InsertionTakesTheWayOfTheTable :
    let full := fun (r : TokenRecord) => { calm with table := (List.range 8).map fun w => (40 + w, r) }
    calm.placement 5 19002 = .free 0 ∧ (full plain).placement 5 19002 = .evict 0 plain ∧
      (full { plain with openPart := some openA }).placement 5 19002 =
        .displace 0 { plain with openPart := some openA } openA ∧
      (full { plain with closing := some closingA }).placement 5 19002 = .full := by
  decide +kernel

/-- Eight slots full, and seven, with the Matcher waiting, the Sweeper waiting, and neither. -/
theorem test_meets_OldestJobIsTakenAndItsSlotGranted :
    (∀ n, n = 7 ∨ n = 6 →
      let s : State :=
        { calm with fau := { jobs := jobA :: List.replicate n jobA }, slots := { matcherRequest := .waiting } }
      s.fau.state = .idle ∧ s.fau.jobs = jobA :: List.replicate n jobA ∧
        s.fau.jobs.length + s.slots.matcherReserved + s.slots.sweeperReserved = n + 1 ∧
        s.slots.matcherRequest = .waiting ∧ { s.slots with matcherRequest := .none }.matcherRequest ≠ .waiting ∧
        { s.slots with sweeperRequest := .waiting }.sweeperRequest = .waiting) := by
  rintro n (rfl | rfl) <;> decide +kernel

/-- An override pair in force, named in either order, and an entry at minute 240, where band 1 begins (Table 1-8). -/
theorem test_meets_ComputationHandsOnTheFare_tables :
    let m := writeWords (writeWord loaded 6 1) 1024 [0x01030A82]
    (overrideNames m 0 3 1 ∧ overrideNames m 0 1 3) ∧ stepHolds checked 6 ∧
      dayType checked ((1641772800 + 14400 : LineTime).toNat / 86400) = 0 ∧
      (1641772800 + 14400 : LineTime).toNat % 86400 / 60 = 240 ∧ 1 < bandCount checked 0 ∧ bandStart checked 0 1 = 240 := by
  refine ⟨by unfold overrideNames; decide +kernel, ?_, by decide +kernel⟩
  intro d hd
  have hj : ∀ j < 5, j + 1 < bandCount checked d → bandStart checked d j < bandStart checked d (j + 1) := by
    interval_cases d <;> decide +kernel
  have hb : bandStart checked d 0 = 0 ∧ bandCount checked d ≤ 5 := by interval_cases d <;> decide +kernel
  exact ⟨hb.1, fun j h => hj j (by omega) h⟩

/-- Stations 4, the last in force, and 5; classes of factor 0 and of another. -/
theorem test_meets_ComputationHandsOnTheFare :
    (fauIn (.computing workedJob)).fau.state = .computing workedJob ∧
      (4 : Octet).toNat < stationCount (calm.words .A) ∧ stationCount (calm.words .A) ≤ (5 : Octet).toNat ∧
      classFactor (calm.words .A) 3 = 0 ∧ classFactor (calm.words .A) workedJob.cls ≠ 0 := by
  refine ⟨rfl, by decide +kernel⟩

/-- 63 and 64 settlements queued; a DISPLACED job. -/
theorem test_meets_SettlementEntryEndsTheWait :
    (fauIn (.waitSettlement jobA resultA)).fau.state = .waitSettlement jobA resultA ∧
      { calm.office with settlements := List.replicate 63 settled }.settlements.length < 64 ∧
      64 ≤ { calm.office with settlements := List.replicate 64 settled }.settlements.length ∧
      (∀ e, jobA.journey ≠ .displaced e) ∧ (jobOf (.displaced ⟨1, 7, now⟩)).journey = .displaced ⟨1, 7, now⟩ ∧
      (jobOf (.displaced ⟨1, 7, now⟩)).ref = .none := by
  refine ⟨rfl, by decide, by decide, ?_, rfl, rfl⟩
  intro e h
  cases h

/-- A job that answers a verdict entry, one that answers a reply, and one whose record is not there; the Matcher waiting
for the closing part, and for a way of the bucket. -/
theorem test_meets_WriteBackChargesTheRecord :
    let c : ClosingPart := { closingA with ref := .reply 7 }
    let h := handlingOf (tapAt 4 2)
    (∀ c' : ClosingPart, c' = closingA ∨ c' = c →
      let q := { plain with closing := some c' }
      let s := atWriteBack (c'.job 5) q
      s.fau.state = .waitHold (c'.job 5) resultA ∧ s.holds.fau = .held 5 reading ∧
        s.lookupClosing 5 (c'.job 5).token (c'.job 5).tag = some (2, q, c') ∧ ∀ e, (c'.job 5).journey ≠ .expired e) ∧
      (closingA.job 5).ref = .verdict 0 0 ∧ ((atWriteBack jobA plain).verdictAt 0 0).isSome = true ∧
      (c.job 5).ref = .reply 7 ∧ (calm.office.replies[7]?).isSome = true ∧ h.tap.token = jobA.token ∧
      calm.bucketOf h.tap.token = 5 ∧ (atWriteBack (jobOf (.unmatched ⟨4, 2, now⟩)) plain).lookupClosing 5 5 812 = none ∧
      (jobOf (.unmatched ⟨4, 2, now⟩)).ref = .none := by
  refine ⟨fun c' h => ?_, by decide +kernel⟩
  rcases h with rfl | rfl <;> exact ⟨rfl, rfl, by decide +kernel, fun e h => by cases h⟩

/-- A correction window of 3600, and one of 0. -/
theorem test_meets_ExpiryLeavesARecentPart :
    let c : ClosingPart := { closingA with journey := .expired ⟨1, 7, 1641837600⟩, ref := .none }
    let q := { plain with closing := some c, recent := some recentA }
    let s := atWriteBack (c.job 5) q
    s.fau.state = .waitHold (c.job 5) resultA ∧ s.holds.fau = .held 5 reading ∧ s.lookupClosing 5 5 812 = some (2, q, c) ∧
      (c.job 5).journey = .expired ⟨1, 7, 1641837600⟩ ∧ (c.job 5).ref = .none ∧
      0 < correctionWindow (s.words .A) ∧ correctionWindow (writeWord (s.words .A) 25 0) = 0 := by
  decide +kernel

theorem test_meets_BaseChargeIsExactAndBounded :
    countsInRange checked = true ∧ parametersInRange checked = true ∧ tiersIncrease checked = true ∧
      tierCount checked = 3 := by
  decide +kernel

/-- 285 cents under a step of 1 and of 19, of which it is a multiple. -/
theorem test_meets_SteppedFareRoundsByItsMode : 1 ≤ 1 ∧ 1 ≤ 19 ∧ 19 ∣ 285 := by decide

/-- A capped class, one uncapped, a spend at its cap and one above it. -/
theorem test_meets_ChargesStayUnderTheCap :
    (600 ≤ 65535 ∧ 290 ≤ 65535 ∧ 255 ≤ 255) ∧ (600 < 65535 ∧ 600 ≤ 600) ∧ (600 < 65535 ∧ 600 < 601) := by
  decide

theorem test_meets_SharesAddUpToTheAmount :
    [750, 1100, 840, 0].length = 4 ∧ 0 < [750, 1100, 840, 0].sum ∧ (0 : Int) ≤ 180 ∧ (-130 : Int) < 0 := by decide

/-- The path of Table 3-6, sound territories, and a path without length from a station to itself. -/
theorem test_meets_PathLengthIsTheGeometricDistance :
    [750, 1100, 840, 0].length = 4 ∧ territoriesSound checked = true ∧ 0 < pathLength (pathSpans checked 1 4) ∧
      pathLength (pathSpans checked 4 4) = 0 ∧ stationOwner checked 4 = 2 := by
  decide +kernel

/-- A record with a recent-expiry part a second past its correction window, at the first bucket of a burst and at the
fourth of one that a stop is ending. -/
theorem test_meets_ExaminationDropsAndFrees :
    ∀ w : Sweeper, w = { state := .burst, pointer := 5 } ∨ w = { state := .stopping, pointer := 5, burstDone := 3 } →
      let s : State := { withRecord { plain with recent := some { recentA with expiryTime := 1641848399 } } with
        sweeper := w, holds := { sweeper := .held 5 reading } }
      s.storesCanonical ∧ (s.sweeper.state = .burst ∨ s.sweeper.state = .stopping) ∧ s.holds.sweeper = .held 5 reading ∧
        (∀ w < 8, ∀ r, s.way 5 w = some r → r.closing = none → r.openPart = none) ∧
        s.overdue now { recentA with expiryTime := 1641848399 } = true ∧ s.overdue now recentA = false ∧
        s.partsDropped 5 now .A = 1 := by
  intro w hw
  refine ⟨?_, ?_, rfl, ?_, ?_⟩
  · exact ⟨(by decide +kernel : wordsWf checked), (by decide +kernel : wordsWf []),
      (by unfold sparseRising; decide +kernel :
        sparseRising (withRecord { plain with recent := some { recentA with expiryTime := 1641848399 } }).table)⟩
  · rcases hw with rfl | rfl
    · exact .inl rfl
    · exact .inr rfl
  · intro v hv r h
    interval_cases v <;> cases h
    exact fun _ => rfl
  · rcases hw with rfl | rfl <;> decide +kernel

/-- The last bucket of a power-up pass, and buckets 4094 and 4095 of a restart pass. -/
theorem test_meets_StartPassesWorkTheirBucket :
    (passing .powerUp 4095).holds.sweeper = .held 4095 reading ∧ (passing .powerUp 4095).sweeper.state = .startPass ∧
      (passing .powerUp 4095).sweeper.passKind = .powerUp ∧ (passing .powerUp 4095).bucketCount ≤ 4095 + 1 ∧
      (passing .restart 4094).holds.sweeper = .held 4094 reading ∧ (passing .restart 4094).sweeper.passKind = .restart ∧
      (passing .restart 4094).sweeper.passWay = 0 ∧ 4094 < (passing .restart 4094).dramWritten ∧
      4094 + 1 < (passing .restart 4094).bucketCount ∧ (passing .restart 4095).holds.sweeper = .held 4095 reading ∧
      4095 < (passing .restart 4095).dramWritten ∧ (passing .restart 4095).bucketCount ≤ 4095 + 1 ∧
      ∀ b, ∀ w < 8, ∀ r, (passing .restart b).way b w = some r → r.closing = none := by
  refine ⟨rfl, rfl, rfl, by decide, rfl, rfl, rfl, by decide, by decide, rfl, by decide, by decide,
    fun b w _ r h => by cases h⟩

/-- An open part at the max journey duration of 14400 seconds and a second short of it, with a slot at hand and none. -/
theorem test_meets_DueJourneysExpireOrWait :
    let o : OpenPart := { openA with entry := ⟨1, 7, now - 14400⟩ }
    let s : State := { withRecord { plain with openPart := some o } with
      sweeper := { state := .burst, pointer := 5 }, holds := { sweeper := .held 5 reading } }
    s.holds.sweeper = .held 5 reading ∧ s.sweeper.state = .burst ∧ s.way 5 2 = some { plain with openPart := some o } ∧
      (∀ v < 8, v ≠ 2 → ∀ q, s.way 5 v = some q → q.closing.isSome = true) ∧
      maxJourneyDuration (s.words .A) = s.clock.lineSeconds.toNat - o.entry.time.toNat ∧
      s.clock.lineSeconds.toNat - (now - 14399).toNat < maxJourneyDuration (s.words .A) ∧ 0 < s.freeSlots ∧
      ({ s with fau := { jobs := List.replicate 8 jobA } } : State).freeSlots = 0 := by
  refine ⟨rfl, rfl, by decide +kernel, ?_, by decide +kernel⟩
  intro v hv hne q h
  interval_cases v <;> first | exact absurd rfl hne | cases h

/-- A closing part in way 2, the way the pass resumes at, with a slot at hand and none. -/
theorem test_meets_RestartPassResubmitsClosingParts :
    let r := { plain with closing := some closingA }
    let s : State := { withRecord r with
      sweeper := { state := .startPass, passKind := .restart, passBucket := 5, passWay := 2 }
      holds := { sweeper := .held 5 reading } }
    s.holds.sweeper = .held 5 reading ∧ s.sweeper.state = .startPass ∧ s.sweeper.passKind = .restart ∧ 5 < s.dramWritten ∧
      s.sweeper.passWay ≤ 2 ∧ s.way 5 2 = some r ∧ r.closing = some closingA ∧
      (∀ v < 8, s.sweeper.passWay ≤ v → v ≠ 2 → ∀ q, s.way 5 v = some q → q.closing = none) ∧ 0 < s.freeSlots ∧
      5 + 1 < s.bucketCount ∧ ({ s with fau := { jobs := List.replicate 8 jobA } } : State).freeSlots = 0 := by
  refine ⟨rfl, rfl, rfl, by decide, by decide, by decide +kernel, rfl, ?_, by decide +kernel⟩
  intro v hv _ hne q h
  interval_cases v <;> first | exact absurd rfl hne | cases h

/-- Segment 15, the last, in bank B. -/
theorem test_meets_ClearsAreRefusedTakenAndCompleted_completed :
    let s : State := { calm with store := { calm.store with
      bankB := { words := denyWords }, clear := some ⟨.B, 15, 0, 7⟩ } }
    s.storesCanonical ∧ s.store.clear = some ⟨.B, 15, 0, 7⟩ ∧ (s.office.replies[7]?).isSome = true := by
  refine ⟨by unfold State.storesCanonical; decide +kernel, rfl, rfl⟩

/-- The check of bank B passes with a record in work that was judged under it. -/
theorem test_meets_PassedCheckActivatesTheBank :
    let h := { handlingOf (tapAt 4 1) with judging := .B }
    let s := inHold (withB { words := loaded, state := .checking, activation := some now }) h
    s.matcher.work = .waitHold h ∧ s.storesCanonical ∧ (s.bank .B).state = .checking ∧ (s.bank (BankId.other .B)).state ≠ .checking ∧
      checkFailure (s.words .B) = none ∧ (s.bank (BankId.other .B)).state = .active := by
  refine ⟨rfl, by unfold State.storesCanonical; decide +kernel, rfl, by decide, by decide +kernel, rfl⟩

theorem test_meets_FailedCheckReturnsTheBank :
    let s := withB { words := writeWord loaded 0 8, state := .checking, activation := some now }
    (s.bank .B).state = .checking ∧ (s.bank (BankId.other .B)).state ≠ .checking ∧ checkFailure (s.words .B) = some 1 := by
  decide +kernel

theorem test_meets_FailedCheckReturnsTheBank_checksum : wordsWf checked := by decide +kernel

/-- A request is next, with the last reply entry free. -/
def nextRequest (code : Octet) (args : List Octet) (s : State) : Prop :=
  ({ s with office :=
    { intake := [requestFrame code args]
      replies := List.replicate 7 ({ state := .ready } : ReplyEntry) ++ [{}] } } : State).takes code.toNat 7
    (requestFrame code args)

theorem nextRequest_of (code : Octet) (args : List Octet) (s : State) (hw : s.responder.inWork = none)
    (hp : s.responder.restartPending = none)
    (hk : requestKnown (framePayload (requestFrame code args)) = true)
    (hc : (requestCode (framePayload (requestFrame code args))).toNat = code.toNat) : nextRequest code args s :=
  ⟨hw, hp, rfl, rfl, hk, hc⟩

/-- A unit read at the last offset, and the other requests that change nothing. -/
theorem test_meets_ReadingRequestsChangeNothing :
    nextRequest 1 [] calm ∧ nextRequest 18 [] calm ∧ nextRequest 11 [] calm ∧ nextRequest 8 [1, 0x3F, 0xFC] calm ∧
      bankOf 1 = some .B ∧ fieldAt [1, 0x3F, 0xFC] 1 2 = 16380 ∧ calm.store.clearing .B 16380 = false := by
  refine ⟨?_, ?_, ?_, ?_, by decide +kernel⟩ <;>
    exact nextRequest_of _ _ _ rfl rfl (by decide +kernel) (by decide +kernel)

/-- The clock set to the activation time of a SCHEDULED bank. -/
theorem test_meets_SetTimeSetsTheClock :
    nextRequest 2 [0x61, 0xDC, 0x61, 0x20] (withB { state := .scheduled, activation := some 0x61DC6120 }) :=
  nextRequest_of _ _ _ rfl rfl (by decide +kernel) (by decide +kernel)

/-- A trim of -1001, which is clamped. -/
theorem test_meets_SetTrimClampsAndKeeps : nextRequest 3 [0xFC, 0x17] calm :=
  nextRequest_of _ _ _ rfl rfl (by decide +kernel) (by decide +kernel)

/-- Segment 15 of bank B, and segment 16, which is not one. -/
theorem test_meets_ClearsAreRefusedTakenAndCompleted_taken :
    nextRequest 4 [1, 15] calm ∧ nextRequest 4 [1, 16] calm ∧ bankOf 1 = some .B ∧ (15 : Octet).toNat ≤ 15 ∧
      15 < (16 : Octet).toNat ∧ calm.store.clear = none ∧ (calm.bank .B).state = .staging := by
  refine ⟨?_, ?_, by decide +kernel⟩ <;> exact nextRequest_of _ _ _ rfl rfl (by decide +kernel) (by decide +kernel)

/-- The unit after the derived area, at offset 1600, its two ends, a unit of the ACTIVE bank, one being cleared and one
not clear. -/
theorem test_meets_WriteUnitGoesByItsTests :
    nextRequest 5 ([1, 6, 0x40] ++ List.replicate 16 0) calm ∧ nextRequest 5 ([1, 6, 0] ++ List.replicate 16 0) calm ∧
      nextRequest 5 ([1, 6, 0x3C] ++ List.replicate 16 0) calm ∧ nextRequest 5 ([0, 0, 0] ++ List.replicate 16 0) calm ∧
      calm.storesCanonical ∧ calm.unitWritable .B 1600 ∧ (calm.bank .A).state ≠ .staging ∧
      fieldAt [1, 6, 0x40] 1 2 = 1600 ∧ fieldAt [1, 6, 0] 1 2 = 1536 ∧ fieldAt [1, 6, 0x3C] 1 2 = 1596 ∧
      { calm.store with clear := some ⟨.B, 0, 0, 0⟩ }.clearing .B 0 = true ∧
      wordAt ((withB { words := loaded }).words .B) 0 ≠ 4294967295 := by
  refine ⟨?_, ?_, ?_, ?_, by unfold State.storesCanonical; decide +kernel, by unfold State.unitWritable; decide +kernel,
    by decide +kernel⟩ <;> exact nextRequest_of _ _ _ rfl rfl (by decide +kernel) (by decide +kernel)

/-- The load pointer at the last unit and past it; SET POINTER to offset 16384, and to 16388. -/
theorem test_meets_WriteNextAndSetPointer :
    nextRequest 6 (List.replicate 16 0) calm ∧ nextRequest 7 [1, 0x40, 0] calm ∧ nextRequest 7 [1, 0x40, 4] calm ∧
      calm.storesCanonical ∧ calm.unitWritable .B 16380 ∧ { calm.store with pointerOffset := 16384 }.pointerOffset = 16384 ∧
      fieldAt [1, 0x40, 0] 1 2 = 16384 ∧ 16384 < fieldAt [1, 0x40, 4] 1 2 := by
  refine ⟨?_, ?_, ?_, by unfold State.storesCanonical; decide +kernel, by unfold State.unitWritable; decide +kernel,
    by decide +kernel⟩ <;> exact nextRequest_of _ _ _ rfl rfl (by decide +kernel) (by decide +kernel)

/-- Bank B at the clock's time, at the second after it, with banks A and B in the states that refuse it. -/
theorem test_meets_ScheduleAndUnschedule :
    nextRequest 9 [1, 0x61, 0xDC, 0xAC, 0x60] calm ∧ nextRequest 10 [] calm ∧ calm.banksSound ∧
      (BitVec.ofNat 32 (fieldAt [1, 0x61, 0xDC, 0xAC, 0x60] 1 4)).toNat = calm.clock.lineSeconds.toNat ∧
      (calm.bank .A).state = .active ∧ (calm.bank .B).state = .staging ∧
      ((withB { state := .scheduled }).bank .B).state = .scheduled ∧
      ((withB { state := .checking }).bank .B).state = .checking ∧
      ((withB { state := .retiring }).bank .B).state = .retiring := by
  refine ⟨?_, ?_, ⟨by decide +kernel, by decide +kernel, fun c h => by cases h⟩, by decide +kernel⟩ <;>
    exact nextRequest_of _ _ _ rfl rfl (by decide +kernel) (by decide +kernel)

/-- SWEEP CONFIG with the last bucket and with the count itself, SWEEP START and SWEEP STOP. -/
theorem test_meets_SweepRequestsSteerTheSweeper :
    nextRequest 12 [0, 0, 0, 0x0F, 0xFF] calm ∧ nextRequest 12 [1, 0, 1, 0x10, 0] calm ∧ nextRequest 13 [] calm ∧
      nextRequest 14 [] calm ∧ calm.sweeper.state = .idle ∧ fieldAt [0, 0, 0, 0x0F, 0xFF] 3 2 < calm.bucketCount ∧
      calm.bucketCount ≤ fieldAt [1, 0, 1, 0x10, 0] 3 2 ∧ busy.sweeper.state = .burst ∧
      State.reset.sweeper.state = .startPass := by
  refine ⟨?_, ?_, ?_, ?_, by decide +kernel⟩ <;>
    exact nextRequest_of _ _ _ rfl rfl (by decide +kernel) (by decide +kernel)

/-- READ TOKEN of token 5, whose bucket is free, held, and released again. -/
theorem test_meets_ReadTokenReadsWithoutAHold :
    nextRequest 15 [0, 0, 0, 0, 0, 0, 0, 5] (withRecord plain) ∧ (withRecord plain).matcher.readiness ≠ .starting ∧
      (withRecord plain).holds.heldIn 5 = false ∧ (withRecord plain).lookup 5 5 = some (2, plain) ∧
      busy.holds.heldIn 5 = true ∧ calm.lookup 5 5 = none ∧ calm.holds.waitedIn 5 = false ∧
      { calm.responder with inWork := some (.readToken 5 7) }.inWork = some (.readToken 5 7) ∧
      (calm.office.replies[7]?).isSome = true ∧
      { calm.holds with matcher := Hold.waiting 5 }.matcher = .waiting 5 := by
  refine ⟨nextRequest_of _ _ _ rfl rfl (by decide +kernel) (by decide +kernel), by decide +kernel⟩

/-- SET CHANNELS, CLEAR FAULT, ASSIST EXIT, RESTART, and a payload of two octets. -/
theorem test_meets_OtherRequestsActAsTheirRules :
    nextRequest 17 [0xFA] calm ∧ nextRequest 19 [] calm ∧ nextRequest 16 [0, 0, 0, 0, 0, 0, 0, 5, 4, 2] calm ∧
      nextRequest 20 [] calm ∧ requestKnown (framePayload (buildFrame 4 1 0 77 [1, 0])) = false ∧
      freePlace ReplyEntry.state calm.office.replies = some 0 ∧ Instr.unknownRequest ∈ requestCommands ∧
      { calm.responder with restartPending := some 7 }.restartPending ≠ none ∧
      { calm.responder with inWork := some (.assistTaken 7) }.inWork ≠ none ∧ calm.office.intake = [] ∧
      freePlace ReplyEntry.state (List.replicate 8 ({ state := .taken } : ReplyEntry)) = none := by
  refine ⟨?_, ?_, ?_, ?_, by decide +kernel⟩ <;>
    exact nextRequest_of _ _ _ rfl rfl (by decide +kernel) (by decide +kernel)

end Sys2Proof.Tests
end

section
/-!
Stage 4's step (R35): one equation per rounding mode, the bounds each equation gives, and the obligation from them.
-/
namespace Sys2Proof.Machine

section RoundingModes

variable {mode step c q : Nat}

theorem steppedFare_nearest (step c : Nat) : steppedFare 0 step c = (c + step / 2) / step * step := rfl

/-- The model's quotient for UP is the library's ceiling division, R35's ceil(*C* / *s*). -/
theorem steppedFare_up (step c : Nat) : steppedFare 1 step c = c ⌈/⌉ step * step := by
  rw [Nat.ceilDiv_eq_add_pred_div]; rfl

theorem steppedFare_down (step c : Nat) : steppedFare 2 step c = c / step * step := rfl

theorem two_mul_steppedFare_nearest_le (step c : Nat) : 2 * steppedFare 0 step c ≤ 2 * c + step := by
  have below : steppedFare 0 step c ≤ c + step / 2 := Nat.div_mul_le_self _ _
  omega

theorem two_mul_lt_two_mul_steppedFare_nearest_add (hs : 0 < step) : 2 * c < 2 * steppedFare 0 step c + step := by
  have above : c + step / 2 < steppedFare 0 step c + step := Nat.lt_div_mul_add hs
  omega

theorem dvd_steppedFare_up (step c : Nat) : step ∣ steppedFare 1 step c :=
  steppedFare_up step c ▸ Nat.dvd_mul_left _ _

theorem le_steppedFare_up (hs : 0 < step) : c ≤ steppedFare 1 step c := by
  rw [steppedFare_up, mul_comm]
  exact le_smul_ceilDiv hs

theorem steppedFare_up_le_of_dvd (hs : 0 < step) (hq : step ∣ q) (hcq : c ≤ q) : steppedFare 1 step c ≤ q := by
  obtain ⟨k, rfl⟩ := hq
  have quotient_le : c ⌈/⌉ step ≤ k := (ceilDiv_le_iff_le_mul hs).2 hcq
  rw [steppedFare_up, mul_comm]
  exact Nat.mul_le_mul_left step quotient_le

theorem dvd_steppedFare_down (step c : Nat) : step ∣ steppedFare 2 step c := Nat.dvd_mul_left _ _

theorem steppedFare_down_le (step c : Nat) : steppedFare 2 step c ≤ c := Nat.div_mul_le_self _ _

theorem le_steppedFare_down_of_dvd (hq : step ∣ q) (hqc : q ≤ c) : q ≤ steppedFare 2 step c := by
  have le_floor : q / step * step ≤ steppedFare 2 step c := Nat.mul_le_mul_right step (Nat.div_le_div_right hqc)
  rwa [Nat.div_mul_cancel hq] at le_floor

/-- Half a step, rounded down, does not carry a multiple to the next one. -/
theorem steppedFare_nearest_of_dvd (hs : 0 < step) (hc : step ∣ c) : steppedFare 0 step c = c := by
  have half_div : step / 2 / step = 0 := Nat.div_eq_of_lt (Nat.div_lt_self hs one_lt_two)
  rw [steppedFare_nearest, Nat.add_div_of_dvd_right hc, half_div, Nat.add_zero, Nat.div_mul_cancel hc]

theorem steppedFare_of_dvd (hs : 0 < step) (hmode : mode ≤ 2) (hc : step ∣ c) : steppedFare mode step c = c := by
  match mode, hmode with
  | 0, _ => exact steppedFare_nearest_of_dvd hs hc
  | 1, _ => exact (steppedFare_up_le_of_dvd hs hc le_rfl).antisymm (le_steppedFare_up hs)
  | 2, _ => exact (steppedFare_down_le step c).antisymm (le_steppedFare_down_of_dvd hc le_rfl)

end RoundingModes

/-- Settles O41, from the bounds of each rounding mode. -/
theorem steppedFareRoundsByItsMode : Obligations.SteppedFareRoundsByItsMode := fun step c hs =>
  ⟨⟨steppedFare_nearest step c, two_mul_steppedFare_nearest_le step c, two_mul_lt_two_mul_steppedFare_nearest_add hs⟩,
    ⟨dvd_steppedFare_up step c, le_steppedFare_up hs, fun _ => steppedFare_up_le_of_dvd hs⟩,
    ⟨dvd_steppedFare_down step c, steppedFare_down_le step c, fun _ => le_steppedFare_down_of_dvd⟩,
    fun _ => steppedFare_of_dvd hs⟩

end Sys2Proof.Machine
end

section
/-!
Stage 6's division (R58): the order of service ranks the owners, so that as many of them as there are leftover cents are
served one; the leftover is counted by the remainders; the obligation from both.
-/
namespace Sys2Proof.Machine

open Finset

section Rank

variable {α : Type} [LinearOrder α] {s : Finset Nat} {key : Nat → α} {j k n : Nat}

/-- How many members of `s` come before `k` in the order of their keys. -/
def rankIn (s : Finset Nat) (key : Nat → α) (k : Nat) : Nat := #{j ∈ s | key j < key k}

theorem rankIn_mono (h : key j ≤ key k) : rankIn s key j ≤ rankIn s key k :=
  card_le_card (monotone_filter_right s fun _ _ hi => hi.trans_le h)

theorem rankIn_lt_rankIn (hj : j ∈ s) (h : key j < key k) : rankIn s key j < rankIn s key k := by
  refine card_lt_card ((ssubset_iff_of_subset ?_).2 ⟨j, by simp [hj, h], by simp⟩)
  exact monotone_filter_right s fun _ _ hi => hi.trans h

theorem rankIn_lt_card (hk : k ∈ s) : rankIn s key k < #s :=
  card_lt_card ((ssubset_iff_of_subset (filter_subset _ s)).2 ⟨k, hk, by simp⟩)

theorem rankIn_injOn (hkey : key.Injective) : Set.InjOn (rankIn s key) s := by
  intro j hj k hk heq
  rcases lt_trichotomy (key j) (key k) with h | h | h
  · exact absurd heq (rankIn_lt_rankIn hj h).ne
  · exact hkey h
  · exact absurd heq (rankIn_lt_rankIn hk h).ne'

theorem image_rankIn (hkey : key.Injective) : s.image (rankIn s key) = range #s := by
  refine eq_of_subset_of_card_le (fun i hi => ?_) ?_
  · obtain ⟨k, hk, rfl⟩ := mem_image.1 hi
    exact mem_range.2 (rankIn_lt_card hk)
  · rw [card_range, card_image_of_injOn (rankIn_injOn hkey)]

/-- Exactly `n` members of `s` have one of the first `n` ranks. -/
theorem card_filter_rankIn_lt (hkey : key.Injective) (hn : n ≤ #s) : #{k ∈ s | rankIn s key k < n} = n := by
  have first_ranks : (s.image (rankIn s key)).filter (· < n) = range n := by
    rw [image_rankIn hkey]
    ext i
    simp only [mem_filter, mem_range]
    omega
  have injective_there := (rankIn_injOn (s := s) hkey).mono (filter_subset (rankIn s key · < n) s)
  rw [filter_image] at first_ranks
  rw [← card_image_of_injOn injective_there, first_ranks, card_range]

end Rank

section Division

variable {amount : Int} {a k j : Nat} {d : List Nat}

/-- The operators that own part of the path (R58). -/
def pathOwners (d : List Nat) : Finset Nat := {k ∈ range d.length | 0 < d.getD k 0}

theorem card_pathOwners_le (d : List Nat) : #(pathOwners d) ≤ d.length :=
  (card_filter_le _ _).trans_eq (card_range _)

/-- Greater remainders first, of equal ones the lower numbers (R58, step 3). -/
def serviceKey (a : Nat) (d : List Nat) (k : Nat) : Natᵒᵈ ×ₗ Nat := toLex (.toDual (shareRemainder a d k), k)

theorem serviceKey_injective (a : Nat) (d : List Nat) : (serviceKey a d).Injective := fun _ _ h =>
  congrArg (fun x => (ofLex x).2) h

theorem serviceKey_lt_iff : serviceKey a d j < serviceKey a d k ↔
    shareRemainder a d k < shareRemainder a d j ∨ (shareRemainder a d k = shareRemainder a d j ∧ j < k) := by
  simp [serviceKey, Prod.Lex.toLex_lt_toLex, eq_comm]

theorem servedBefore_eq_rankIn (a : Nat) (d : List Nat) (k : Nat) :
    servedBefore a d k = rankIn (pathOwners d) (serviceKey a d) k := by
  simp only [rankIn, pathOwners, filter_filter, serviceKey_lt_iff]
  rfl

theorem serviceKey_lt_of_servedBefore_lt (h : servedBefore a d j < servedBefore a d k) :
    serviceKey a d j < serviceKey a d k := by
  simp only [servedBefore_eq_rankIn] at h
  exact lt_of_not_ge fun hkj => absurd (rankIn_mono hkj) h.not_ge

theorem sum_range_getD (d : List Nat) : ∑ k ∈ range d.length, d.getD k 0 = d.sum := by
  simp [Finset.sum_range]

theorem sum_firstShare_mul_add_sum_shareRemainder (a : Nat) (d : List Nat) :
    (∑ k ∈ range d.length, firstShare a d k) * d.sum + ∑ k ∈ range d.length, shareRemainder a d k = a * d.sum := by
  calc _ = ∑ k ∈ range d.length, (firstShare a d k * d.sum + shareRemainder a d k) := by
        rw [sum_add_distrib, sum_mul]
    _ = ∑ k ∈ range d.length, a * d.getD k 0 := sum_congr rfl fun _ _ => Nat.div_add_mod' _ _
    _ = a * d.sum := by rw [← mul_sum, sum_range_getD]

theorem leftover_eq (a : Nat) (d : List Nat) : leftover a d = a - ∑ k ∈ range d.length, firstShare a d k := rfl

theorem sum_firstShare_add_leftover (hd : 0 < d.sum) :
    ∑ k ∈ range d.length, firstShare a d k + leftover a d = a := by
  have quotients_le : (∑ k ∈ range d.length, firstShare a d k) * d.sum ≤ a * d.sum :=
    (sum_firstShare_mul_add_sum_shareRemainder a d).le.trans' (Nat.le_add_right _ _)
  rw [leftover_eq, Nat.add_sub_cancel' (Nat.le_of_mul_le_mul_right quotients_le hd)]

/-- The cents left over are what the remainders add up to. -/
theorem leftover_mul_sum (hd : 0 < d.sum) : leftover a d * d.sum = ∑ k ∈ range d.length, shareRemainder a d k := by
  refine Nat.add_left_cancel (n := (∑ k ∈ range d.length, firstShare a d k) * d.sum) ?_
  rw [← add_mul, sum_firstShare_add_leftover hd, sum_firstShare_mul_add_sum_shareRemainder]

theorem shareRemainder_lt (hd : 0 < d.sum) (a k : Nat) : shareRemainder a d k < d.sum := Nat.mod_lt _ hd

theorem firstShare_eq_zero (hk : d.getD k 0 = 0) : firstShare a d k = 0 := by
  simp only [firstShare, hk, mul_zero, Nat.zero_div]

theorem shareRemainder_eq_zero (hk : d.getD k 0 = 0) : shareRemainder a d k = 0 := by
  simp only [shareRemainder, hk, mul_zero, Nat.zero_mod]

theorem sum_pathOwners {f : Nat → Nat} (hf : ∀ k, d.getD k 0 = 0 → f k = 0) :
    ∑ k ∈ pathOwners d, f k = ∑ k ∈ range d.length, f k :=
  sum_filter_of_ne fun k _ hk => Nat.pos_of_ne_zero fun h => hk (hf k h)

theorem pathOwners_nonempty (hd : 0 < d.sum) : (pathOwners d).Nonempty := by
  refine nonempty_of_sum_ne_zero (f := fun k => d.getD k 0) ?_
  rw [sum_pathOwners fun _ => id, sum_range_getD]
  exact hd.ne'

/-- Each remainder is less than the divisor, so fewer cents are left over than there are remainders. -/
theorem leftover_lt_card (hd : 0 < d.sum) (hleft : 0 < leftover a d) :
    leftover a d < #{k ∈ pathOwners d | 0 < shareRemainder a d k} := by
  have remainders : ∑ k ∈ pathOwners d with 0 < shareRemainder a d k, shareRemainder a d k = leftover a d * d.sum := by
    rw [leftover_mul_sum hd, ← sum_pathOwners fun _ => shareRemainder_eq_zero]
    exact sum_filter_of_ne fun _ _ => Nat.pos_of_ne_zero
  have nonempty : Finset.Nonempty {k ∈ pathOwners d | 0 < shareRemainder a d k} :=
    nonempty_of_sum_ne_zero (remainders.trans_ne (Nat.mul_pos hleft hd).ne')
  have bound := sum_lt_sum_of_nonempty nonempty fun k _ => shareRemainder_lt hd a k
  rw [remainders, sum_const, smul_eq_mul] at bound
  exact Nat.lt_of_mul_lt_mul_right bound

theorem leftover_lt_card_pathOwners (hd : 0 < d.sum) : leftover a d < #(pathOwners d) := by
  rcases Nat.eq_zero_or_pos (leftover a d) with hzero | hpos
  · exact hzero ▸ (pathOwners_nonempty hd).card_pos
  · exact (leftover_lt_card hd hpos).trans_le (card_filter_le _ _)

theorem card_served (hd : 0 < d.sum) : #{k ∈ pathOwners d | servedBefore a d k < leftover a d} = leftover a d := by
  simp only [servedBefore_eq_rankIn]
  exact card_filter_rankIn_lt (serviceKey_injective a d) (leftover_lt_card_pathOwners hd).le

theorem finalShare_eq_succ_iff : finalShare a d k = firstShare a d k + 1 ↔ servedBefore a d k < leftover a d := by
  simp [finalShare]

theorem finalShare_eq_firstShare_iff : finalShare a d k = firstShare a d k ↔ leftover a d ≤ servedBefore a d k := by
  simp [finalShare]

theorem sum_finalShare (hd : 0 < d.sum) : ∑ k ∈ pathOwners d, finalShare a d k = a := by
  simp only [finalShare, sum_add_distrib, sum_boole]
  rw [sum_pathOwners fun _ => firstShare_eq_zero, Nat.cast_id, card_served hd, sum_firstShare_add_leftover hd]

theorem natAbs_signedShare (amount : Int) (share : Nat) : (signedShare amount share).natAbs = share := by
  unfold signedShare
  split <;> omega

theorem signedShare_natAbs (amount : Int) : signedShare amount amount.natAbs = amount := by
  unfold signedShare
  split <;> omega

theorem signedShare_nonneg (h : 0 ≤ amount) (share : Nat) : 0 ≤ signedShare amount share := by
  rw [signedShare, if_neg h.not_gt]
  exact Int.natCast_nonneg share

theorem signedShare_nonpos (h : amount < 0) (share : Nat) : signedShare amount share ≤ 0 := by
  rw [signedShare, if_pos h]
  omega

theorem sum_signedShare (amount : Int) (s : Finset Nat) (f : Nat → Nat) :
    ∑ k ∈ s, signedShare amount (f k) = signedShare amount (∑ k ∈ s, f k) := by
  unfold signedShare
  split <;> simp

theorem sum_amounts_divideAmount (hd : 0 < d.sum) : ((divideAmount amount d).map (·.amount)).sum = amount := by
  have amounts : ((divideAmount amount d).map (·.amount)).sum =
      ∑ k ∈ pathOwners d, signedShare amount (finalShare amount.natAbs d k) := by
    rw [divideAmount, List.map_map]; rfl
  rw [amounts, sum_signedShare, sum_finalShare hd, signedShare_natAbs]

theorem operators_divideAmount (amount : Int) (d : List Nat) : (divideAmount amount d).map (·.operator) =
    (List.range d.length).filter fun k => decide (0 < d.getD k 0) := by
  simp [divideAmount, Function.comp_def]

theorem length_divideAmount (amount : Int) (d : List Nat) : (divideAmount amount d).length = #(pathOwners d) :=
  List.length_map ..

theorem amount_of_mem_divideAmount {x : Share} (hx : x ∈ divideAmount amount d) :
    x.amount = signedShare amount (finalShare amount.natAbs d x.operator) := by
  obtain ⟨k, -, rfl⟩ := List.mem_map.1 hx
  rfl

theorem natAbs_amount_of_mem_divideAmount {x : Share} (hx : x ∈ divideAmount amount d) :
    x.amount.natAbs = finalShare amount.natAbs d x.operator :=
  (congrArg Int.natAbs (amount_of_mem_divideAmount hx)).trans (natAbs_signedShare _ _)

theorem length_filter_served (hd : 0 < d.sum) :
    ((divideAmount amount d).filter fun x =>
      decide (x.amount.natAbs = firstShare amount.natAbs d x.operator + 1)).length = leftover amount.natAbs d := by
  rw [← card_served hd]
  simp only [divideAmount, List.filter_map, List.length_map, Function.comp_def, natAbs_signedShare,
    finalShare_eq_succ_iff]
  rfl

/-- Who receives a further cent comes before who receives none. -/
theorem serviceKey_lt_of_amounts {x y : Share} (hx : x ∈ divideAmount amount d) (hy : y ∈ divideAmount amount d)
    (served : x.amount.natAbs = firstShare amount.natAbs d x.operator + 1)
    (unserved : y.amount.natAbs = firstShare amount.natAbs d y.operator) :
    serviceKey amount.natAbs d x.operator < serviceKey amount.natAbs d y.operator := by
  rw [natAbs_amount_of_mem_divideAmount hx, finalShare_eq_succ_iff] at served
  rw [natAbs_amount_of_mem_divideAmount hy, finalShare_eq_firstShare_iff] at unserved
  exact serviceKey_lt_of_servedBefore_lt (served.trans_le unserved)

theorem finalShare_eq_or (a : Nat) (d : List Nat) (k : Nat) :
    finalShare a d k = firstShare a d k ∨ finalShare a d k = firstShare a d k + 1 := by
  rw [finalShare_eq_firstShare_iff, finalShare_eq_succ_iff]
  exact le_or_gt _ _

end Division

/-- Settles O43: the leftover cents, counted by the remainders, go to the first owners in the order of service. -/
theorem sharesAddUpToTheAmount : Obligations.SharesAddUpToTheAmount := by
  intro amount d hlength hd a shares first remainder left owners
  have hleft : left = leftover a d := by rw [leftover, hlength]; rfl
  have howners : owners = (List.range d.length).filter fun k => decide (0 < d.getD k 0) := by rw [hlength]
  have hcount : shares.length = #(pathOwners d) := length_divideAmount amount d
  rw [hleft, howners]
  refine ⟨sum_amounts_divideAmount hd, operators_divideAmount amount d, ?_, ?_, ?_, leftover_lt_card hd, ?_, ?_,
    length_filter_served hd, ?_, ?_⟩
  · exact hcount ▸ (pathOwners_nonempty hd).card_pos
  · exact hcount ▸ hlength ▸ card_pathOwners_le d
  · have at_most_four := (leftover_lt_card_pathOwners (a := a) hd).trans_le (card_pathOwners_le d)
    omega
  · intro x hx
    rw [amount_of_mem_divideAmount hx]
    exact ⟨fun h => signedShare_nonneg h _, fun h => signedShare_nonpos h _⟩
  · intro x hx
    rw [natAbs_amount_of_mem_divideAmount hx]
    exact finalShare_eq_or a d x.operator
  · exact fun x hx y hy served unserved => serviceKey_lt_iff.1 (serviceKey_lt_of_amounts hx hy served unserved)
  · intro ha hlengths k
    calc a * d.getD k 0 ≤ 65535 * 196605 := Nat.mul_le_mul ha (hlengths k)
      _ < 2 ^ 34 := by norm_num

end Sys2Proof.Machine
end

section
/-!
TAP_HOLD_GRANTED for an exit by a token whose record holds an open part (R99 to R101): the tap reaches the exit test,
the test chooses the closing part and its verdict entry, and whichever closing part it is takes the place of the open
part in the same way.
-/
namespace Sys2Proof.Machine

open Sys2Proof

section ExitOfAJourney

variable {s : State} {h : Handling} {b slot position w : Nat} {read : Reading} {source : Octet} {r : TokenRecord}
  {o : OpenPart}

/-! ### The tap reaches the exit test (R92, R94, R95) -/

/-- In the hold over a record without a closing part the tap is handled with the reading of the grant (R92). -/
theorem exec_tapHoldGranted_found (hold : s.inTapHold b read h slot position source)
    (found : s.lookup b h.tap.token = some (w, r)) (noClosing : r.closing = none) :
    exec .tapHoldGranted s = .next (s.handleTap b h (some (w, r)) read.now (dayOf read.now)) := by
  obtain ⟨work, held, origin, -, -⟩ := hold
  show execTapHoldGranted s = _
  simp [execTapHoldGranted, work, held, State.handleHold, found, closingFound, noClosing, origin]

/-- An exit, and an EITHER over an open part, is not taken as an entry (Table 5-3). -/
theorem takenAsEntry_of_exit {d : Octet} (exits : d = 2 ∨ d = 3) : takenAsEntry d true = false := by
  rcases exits with rfl | rfl <;> rfl

/-- A tap that finds an open part and is no entry closes it, whether it is marked EXIT or EITHER (R95, R99). -/
theorem exec_tapHoldGranted_exit (hold : s.inTapHold b read h slot position source) (finds : s.tapFinds b h w r)
    (isOpen : r.openPart = some o) (exits : h.tap.direction = 2 ∨ h.tap.direction = 3) :
    exec .tapHoldGranted s = .next (s.exitOpen b w h r o read.now) := by
  obtain ⟨found, noClosing, noDuplicate, inUse⟩ := finds
  rw [exec_tapHoldGranted_found hold found noClosing, (s.handleTap_found b h w r _ _).2 inUse, noDuplicate, isOpen]
  simp [takenAsEntry_of_exit exits]

/-! ### The exit test and what it chooses (R99 to R101) -/

/-- The exit leg is the tap's, with its time raised to the entry time where it is below it (R99). -/
theorem Handling.exitLeg_eq (h : Handling) (entry : Leg) : h.exitLeg entry =
    ⟨h.tap.station, h.tap.gate, if h.time.toNat < entry.time.toNat then entry.time else h.time⟩ := by
  simp only [Handling.exitLeg, Handling.raised, Handling.leg, decide_eq_true_eq]
  split_ifs <;> rfl

/-- The cancellation test: the entry station within the cancel window of the part's bank (R99). -/
theorem isCancellation_iff (m : WordMem) (h : Handling) (o : OpenPart) : isCancellation m h o = true ↔
    h.tap.station = o.entry.station ∧ (h.exitLeg o.entry).time.toNat - o.entry.time.toNat ≤ cancelWindow m := by
  simp [isCancellation]

/-- The flags of an exit's job: the marks of both taps, and whether the exit time was raised (R99). -/
theorem entryFlags_union_exitFlags (o : OpenPart) (h : Handling) (raised : Bool) :
    (entryFlags o).union (exitFlags h raised) =
      { entryClamped := o.timeClamped, exitClamped := h.clamped, exitBeforeEntry := raised
        late := o.late || h.late } := by
  simp [entryFlags, exitFlags, SettleFlags.union]

/-- A job made for a tap record refers to its verdict entry. -/
theorem Handling.ref_of_inTapHold (hold : s.inTapHold b read h slot position source) :
    h.ref = .verdict slot position := by
  obtain ⟨-, -, origin, -, -⟩ := hold
  rw [Handling.ref, origin]

/-! ### A closing part takes the place of the open part (R27, R99, R105, R106) -/

/-- The record, its job and the record's end, as one equation (R22, R27, R73, R84, R106). -/
theorem State.closeOpen_eq (hold : s.inTapHold b read h slot position source) (r : TokenRecord) (c : ClosingPart)
    (e : VerdictEntry) : s.closeOpen b w h r c e = { s with
      table := sparseSet s.table (wayKey b w) { r with closing := some (s.tagged c), openPart := none }
      station := s.station.withEntry slot position e, holds := s.matcherReleased b
      slots := s.matcherReturned (s.fau.jobs ++ [(s.tagged c).job r.token]).length, matcher := s.matcher.recordEnded
      fau := { s.fau with tag := s.fau.tag + 1, jobs := s.fau.jobs ++ [(s.tagged c).job r.token] }
      responder := { s.responder with counters := { s.responder.counters with
        tapsTaken := s.responder.counters.tapsTaken + 1 } } } := by
  obtain ⟨-, -, origin, -, noRequest⟩ := hold
  exact State.finish_setVerdict _ b h e slot position source origin (by exact noRequest)

/-- The closing part stands in the record, with the tag of its job (R27). -/
theorem State.way_closeOpen (hold : s.inTapHold b read h slot position source) (r : TokenRecord) (c : ClosingPart)
    (e : VerdictEntry) : (s.closeOpen b w h r c e).way b w =
      some { r with closing := some (s.tagged c), openPart := none } := by
  rw [State.closeOpen_eq hold]
  exact sparseGet_set_self _ _ _

theorem State.sameWaysBut_closeOpen (hold : s.inTapHold b read h slot position source) (r : TokenRecord)
    (c : ClosingPart) (e : VerdictEntry) : s.sameWaysBut (s.closeOpen b w h r c e) b w := by
  rw [State.closeOpen_eq hold]
  exact fun k other => sparseGet_set_ne _ _ other

theorem State.tapEnds_closeOpen (hold : s.inTapHold b read h slot position source) (r : TokenRecord) (c : ClosingPart)
    (e : VerdictEntry) : s.tapEnds (s.closeOpen b w h r c e) b slot position e := by
  obtain ⟨-, -, origin, claimed, noRequest⟩ := hold
  exact State.tapEnds_finish e origin claimed noRequest rfl rfl rfl rfl rfl rfl rfl rfl rfl

end ExitOfAJourney

/-- Settles O28: an exit of either kind reaches one test, which chooses the part and its entry; the rest is common. -/
theorem exitClosesTheJourney : Obligations.ExitClosesTheJourney := by
  intro s h b slot position read source w r o hold finds isOpen exits raised exit cancelled part
  have leg : h.exitLeg o.entry = exit := h.exitLeg_eq o.entry
  have test : isCancellation (s.words o.bank) h o = true ↔ cancelled := by rw [isCancellation_iff, leg]
  obtain ⟨c, e, closes, tagged, flags, atOnce, waits⟩ : ∃ c e,
      s.exitOpen b w h r o read.now = s.closeOpen b w h (r.touch h read.now) c e ∧ s.tagged c = part ∧
        e.flags = h.exitVerdict o.entry ∧
        (cancelled → e.kind = some .cancelled ∧ e.complete = true ∧ e.charge = 0 ∧ e.capRoom = 65535) ∧
        (¬cancelled → e.kind = some .exited ∧ e.complete = false) := by
    by_cases hc : cancelled
    · refine ⟨closeCancelled h o, filledEntry .cancelled (h.exitVerdict o.entry), if_pos (test.2 hc), ?_, rfl,
        fun _ => ⟨rfl, rfl, rfl, rfl⟩, fun hn => absurd hc hn⟩
      simp only [part, if_pos hc, State.tagged, closeCancelled, leg, entryFlags_union_exitFlags]
      rfl
    · refine ⟨closeComplete h o, waitingEntry .exited (h.exitVerdict o.entry), if_neg (mt test.1 hc), ?_, rfl,
        fun hn => absurd hn hc, fun _ => ⟨rfl, rfl⟩⟩
      simp only [part, if_neg hc, State.tagged, closeComplete, leg, entryFlags_union_exitFlags,
        Handling.ref_of_inTapHold hold]
      rfl
  refine ⟨s.closeOpen b w h (r.touch h read.now) c e, e, ?_, ?_, ?_, State.sameWaysBut_closeOpen hold _ c e,
    State.tapEnds_closeOpen hold _ c e, flags, atOnce, waits⟩
  · rw [exec_tapHoldGranted_exit hold finds isOpen exits, closes]
  · rw [← tagged, State.closeOpen_eq hold]
    rfl
  · rw [State.way_closeOpen hold, tagged]
    rfl

end Sys2Proof.Machine
end

section
/-!
SECOND_BOUNDARY (R129, R132, R149, R82): what the time trigger makes of each bank and of the Matcher, the boundary
as the clock's own step followed by the trigger, and the obligation from both.
-/
namespace Sys2Proof.Machine

open Sys2Proof

/-! ### The schedule test of one bank (R149) -/

theorem Bank.testSchedule_due {b : Bank} {a now : LineTime} (scheduled : b.state = .scheduled)
    (time : b.activation = some a) (come : a.toNat ≤ now.toNat) :
    b.testSchedule now = { b with state := .checking, derivedDone := 0 } := by
  simp [Bank.testSchedule, scheduled, time, come]

theorem Bank.testSchedule_notDue {b : Bank} {now : LineTime} (h : b.state ≠ .scheduled ∨ b.activation = none ∨
    ∃ a, b.activation = some a ∧ now.toNat < a.toNat) : b.testSchedule now = b := by
  rcases h with notScheduled | noTime | ⟨a, time, ahead⟩
  · cases time : b.activation <;> simp [Bank.testSchedule, time, notScheduled]
  · simp [Bank.testSchedule, noTime]
  · simp [Bank.testSchedule, time, ahead]

/-- The test makes no bank ACTIVE and takes none out of ACTIVE. -/
theorem Bank.testSchedule_active_iff (b : Bank) (now : LineTime) :
    (b.testSchedule now).state = .active ↔ b.state = .active := by
  unfold Bank.testSchedule
  split
  · split_ifs with due
    · simp [due.1]
    · rfl
  · rfl

/-! ### The time trigger (R132) -/

theorem State.activeBank_testSchedule (s : State) (now : LineTime) :
    (s.testSchedule now).activeBank = s.activeBank := by
  unfold State.testSchedule
  split_ifs
  · simp [State.activeBank, Bank.testSchedule_active_iff]
  · rfl

/-- A trigger does nothing where the clock is UNSET. -/
theorem State.timeTrigger_of_unset {s : State} (unset : s.clock.set = false) (now : LineTime) :
    s.timeTrigger now = s := by
  simp [State.timeTrigger, State.testSchedule, State.wakeMatcher, unset]

/-- The trigger changes the Table Store and the Matcher alone. -/
theorem State.timeTrigger_only (s : State) (now : LineTime) : s.timeTrigger now =
    { s with store := (s.timeTrigger now).store, matcher := (s.timeTrigger now).matcher } := by
  simp only [State.timeTrigger, State.wakeMatcher, State.testSchedule]
  split_ifs <;> rfl

/-- Of the Table Store the trigger changes the banks alone. -/
theorem State.store_timeTrigger (s : State) (now : LineTime) : (s.timeTrigger now).store.clear = s.store.clear ∧
    (s.timeTrigger now).store.pointerBank = s.store.pointerBank ∧
    (s.timeTrigger now).store.pointerOffset = s.store.pointerOffset := by
  obtain ⟨-, store, -⟩ := (s.testSchedule now).wakeMatcher_frame
  rw [State.timeTrigger, store, State.testSchedule]
  split_ifs <;> exact ⟨rfl, rfl, rfl⟩

/-- Waking the Matcher leaves the banks, so the trigger leaves each bank as the schedule test does. -/
theorem State.bank_timeTrigger (s : State) (now : LineTime) (b : BankId) : (s.timeTrigger now).bank b =
    if s.clock.set = true ∧ s.sweeper.state ≠ .startPass then (s.bank b).testSchedule now else s.bank b := by
  obtain ⟨-, store, -⟩ := (s.testSchedule now).wakeMatcher_frame
  rw [← State.bank_testSchedule, State.timeTrigger, State.bank, store, State.bank]

/-- The schedule test leaves the clock, the Matcher and the ACTIVE bank, so the Matcher is woken as in `s` itself. -/
theorem State.matcher_timeTrigger (s : State) (now : LineTime) : (s.timeTrigger now).matcher =
    if s.matcher.readiness = .waiting ∧ s.clock.set = true ∧ s.activeBank.isSome = true then
      { s.matcher with readiness := .ready }
    else s.matcher := by
  rw [State.timeTrigger, State.matcher_wakeMatcher, State.activeBank_testSchedule]
  simp

/-! ### The second boundary (R129, R130) -/

/-- The clock past a second boundary: the saturating step, phase 0, and the length that the trim gives. -/
def Clock.nextSecond (c : Clock) : Clock := { c with
  lineSeconds := if c.lineSeconds = 4294967295 then 4294967295 else c.lineSeconds + 1
  phase := 0, length := (10000000 - c.trim).toNat }

/-- A boundary is the clock's step and then the trigger with the new line seconds, which an UNSET clock makes idle. -/
theorem State.secondBoundary_eq (s : State) : s.secondBoundary =
    { s with clock := s.clock.nextSecond }.timeTrigger s.clock.nextSecond.lineSeconds := by
  cases clockSet : s.clock.set with
  | true => exact if_pos clockSet
  | false =>
    rw [State.timeTrigger_of_unset (by exact clockSet)]
    exact if_neg (by simp [clockSet])

theorem State.clock_secondBoundary (s : State) : s.secondBoundary.clock = s.clock.nextSecond := by
  rw [State.secondBoundary_eq]
  exact (State.timeTrigger_frame _ _).1

/-- A boundary changes the Line Clock, the Table Store and the Matcher alone. -/
theorem State.secondBoundary_only (s : State) : s.secondBoundary = { s with
    clock := s.secondBoundary.clock, store := s.secondBoundary.store, matcher := s.secondBoundary.matcher } := by
  rw [State.clock_secondBoundary, State.secondBoundary_eq]
  exact State.timeTrigger_only _ _

theorem State.store_secondBoundary (s : State) : s.secondBoundary.store.clear = s.store.clear ∧
    s.secondBoundary.store.pointerBank = s.store.pointerBank ∧
    s.secondBoundary.store.pointerOffset = s.store.pointerOffset := by
  rw [State.secondBoundary_eq]
  exact State.store_timeTrigger _ _

theorem State.bank_secondBoundary (s : State) (b : BankId) : s.secondBoundary.bank b =
    if s.clock.set = true ∧ s.sweeper.state ≠ .startPass then (s.bank b).testSchedule s.clock.nextSecond.lineSeconds
    else s.bank b := by
  rw [State.secondBoundary_eq]
  exact State.bank_timeTrigger _ _ b

theorem State.matcher_secondBoundary (s : State) : s.secondBoundary.matcher =
    if s.matcher.readiness = .waiting ∧ s.clock.set = true ∧ s.activeBank.isSome = true then
      { s.matcher with readiness := .ready }
    else s.matcher := by
  rw [State.secondBoundary_eq]
  exact State.matcher_timeTrigger _ _

theorem exec_secondBoundary (s : State) : exec .secondBoundary s = .next s.secondBoundary := rfl

/-- Settles O16: the clock steps, each bank is tested at the new line seconds, and the Matcher is woken. -/
theorem secondBoundaryStepsTheClock : Obligations.SecondBoundaryStepsTheClock := by
  intro s
  obtain ⟨clear, pointerBank, pointerOffset⟩ := s.store_secondBoundary
  have clock := s.clock_secondBoundary
  refine ⟨s.secondBoundary, exec_secondBoundary s, s.secondBoundary_only, clock, clear, pointerBank, pointerOffset,
    ?due, ?kept, ?woken, ?asleep⟩
  case due =>
    intro b a clockSet outside scheduled time come
    rw [clock] at come
    rw [State.bank_secondBoundary, if_pos ⟨clockSet, outside⟩, Bank.testSchedule_due scheduled time come]
  case kept =>
    intro b h
    rw [clock] at h
    rw [State.bank_secondBoundary]
    split_ifs with tests
    · obtain ⟨clockSet, outside⟩ := tests
      exact Bank.testSchedule_notDue (by simpa [clockSet, outside] using h)
    · rfl
  case woken =>
    intro clockSet waiting active
    rw [State.matcher_secondBoundary, if_pos ⟨waiting, clockSet, active⟩]
  case asleep =>
    intro h
    rw [State.matcher_secondBoundary, if_neg]
    rintro ⟨waiting, clockSet, active⟩
    rcases h with unset | notWaiting | noActive
    · simp [clockSet] at unset
    · exact notWaiting waiting
    · simp [noActive] at active

end Sys2Proof.Machine
end

section
/-!
SET_TRIM (R134): the clamped trim and its descriptor are written, the next second boundary loads the length from it, and
the descriptor outlasts both resets.
-/
namespace Sys2Proof.Machine

open Sys2Proof

/-! ### The trim and its descriptor (R130, R134) -/

theorem clampTrim_eq (t : Int) : clampTrim t = if 1000 < t then 1000 else if t < -1000 then -1000 else t := by
  unfold clampTrim
  split_ifs <;> omega

theorem clampTrim_bounds (t : Int) : -1000 ≤ clampTrim t ∧ clampTrim t ≤ 1000 := by
  unfold clampTrim
  omega

/-- A trim within its range reads back from its descriptor (R130). -/
theorem trimOf_ofInt {v : Int} (low : -1000 ≤ v) (high : v ≤ 1000) : trimOf (BitVec.ofInt 16 v) = v := by
  have reads : (BitVec.ofInt 16 v).toInt = v :=
    BitVec.toInt_ofInt_eq_self (by norm_num) (by norm_num; omega) (by norm_num; omega)
  rw [trimOf, reads, if_pos ⟨low, high⟩]

/-! ### The clock at the two resets (R130, R136) -/

theorem State.clock_restart (s : State) : s.restart.clock = s.clock := s.stopStore_frame.1

theorem State.clock_powerUp (s : State) (dram : DramStrap) (node : Octet) : (s.powerUp dram node).clock =
    { trimDescriptor := s.clock.trimDescriptor, trim := trimOf s.clock.trimDescriptor
      length := (10000000 - trimOf s.clock.trimDescriptor).toNat } := by
  rw [← s.stopStore_frame.1]
  rfl

/-! ### The request -/

/-- The clock with a trim set. -/
def Clock.withTrim (c : Clock) (v : Int) : Clock := { c with trim := v, trimDescriptor := BitVec.ofInt 16 v }

/-- SET_TRIM taken changes the clock's trim and descriptor and answers (R134). -/
theorem exec_setTrim {s : State} {entry : Nat} {f : Frame} (h : s.takes 3 entry f) : exec .setTrim s =
    .next { s with
      clock := s.clock.withTrim (clampTrim (signedField (argumentsOf f) 0))
      office := s.officeAnswered entry f .done (intToOctets 2 (clampTrim (signedField (argumentsOf f) 0))) } := by
  show s.onRequest 3 State.setTrim = _
  rw [State.onRequest_takes h, State.setTrim, State.answer, State.fillReply_taken h rfl, State.reserve_eq]
  rfl

/-- Settles O53: the clamp gives a trim in range, which the boundary loads and the descriptor gives back. -/
theorem setTrimClampsAndKeeps : Obligations.SetTrimClampsAndKeeps := by
  intro s entry f taken given v
  have clamped : clampTrim (signedField (argumentsOf f) 0) = v := clampTrim_eq given
  obtain ⟨low, high⟩ : -1000 ≤ v ∧ v ≤ 1000 := clamped ▸ clampTrim_bounds _
  have run := exec_setTrim taken
  rw [clamped] at run
  refine ⟨_, run, rfl, ⟨_, exec_secondBoundary _, ?length⟩, ⟨_, rfl, State.clock_restart _⟩, fun dram node =>
    ⟨_, rfl, ?trim, ?descriptor⟩⟩
  case length =>
    rw [State.clock_secondBoundary]
    exact Int.toNat_of_nonneg (show 0 ≤ 10000000 - v by omega)
  case trim =>
    rw [State.clock_powerUp]
    exact trimOf_ofInt low high
  case descriptor => rw [State.clock_powerUp]; rfl

end Sys2Proof.Machine
end

section
/-!
Unit writes (R142, R143, R144): the tests 2 to 5 of Table 8-1 as equations, what a unit write that passes them makes of
the banks, the two requests that make one, SET POINTER, and the load pointer at the two resets.
-/
namespace Sys2Proof.Machine

open Sys2Proof

/-! ### Requests as octets and rows -/

/-- An octet above 1 names no bank (spec/09, 9.6). -/
theorem bankOf_eq_none {o : Octet} (h : 2 ≤ o.toNat) : bankOf o = none := by
  have notA : o ≠ 0 := by rintro rfl; simp at h
  have notB : o ≠ 1 := by rintro rfl; simp at h
  rw [bankOf, if_neg notA, if_neg notB]

/-- A request row either changes nothing or hands a request to its block, which sees it reserved. -/
theorem State.onRequest_next {s u : State} {code : Nat} {handle : State → Request → State}
    (h : s.onRequest code handle = .next u) : u = s ∨ ∃ entry f q, u = handle (s.reserve entry f) q := by
  unfold State.onRequest at h
  split at h
  · next entry f _ =>
    split_ifs at h with turn
    · exact .inr ⟨entry, f, _, (Host.Outcome.next.inj h).symm⟩
    · exact .inl (Host.Outcome.next.inj h).symm
  · exact .inl (Host.Outcome.next.inj h).symm

/-- A refusal of a request just taken changes the Office Port alone (R173). -/
theorem State.refuse_taken {s : State} {code entry : Nat} {f : Frame} (h : s.takes code entry f) (x : Status) :
    (s.reserve entry f).refuse ⟨entry, frameSource f, argumentsOf f⟩ x =
      { s with office := s.officeAnswered entry f x [] } :=
  State.fillReply_taken h rfl x []

section UnitWrite

variable {s : State} {code entry o : Nat} {f : Frame} {b : BankId}

/-! ### The tests of a unit write (Table 8-1) -/

theorem inDerivedArea_iff : inDerivedArea o = true ↔ 1536 ≤ o ∧ o ≤ 1596 := by simp [inDerivedArea]

theorem inDerivedArea_of_outside (h : o < 1536 ∨ 1596 < o) : inDerivedArea o = false := by
  rw [← Bool.not_eq_true, inDerivedArea_iff]
  omega

theorem unitClear_iff {m : WordMem} : unitClear m o = true ↔ ∀ i < 4, wordAt m (o + i) = 4294967295 := by
  simp [unitClear, Config.clearedWord]

theorem State.writeRefusal_notStaging (h : (s.bank b).state ≠ .staging) :
    s.writeRefusal b o = some (.isProtected, some .writeProtected) := if_pos h

theorem State.writeRefusal_derived (staging : (s.bank b).state = .staging) (low : 1536 ≤ o) (high : o ≤ 1596) :
    s.writeRefusal b o = some (.isProtected, some .writeProtected) := by
  simp [State.writeRefusal, staging, inDerivedArea_iff.2 ⟨low, high⟩]

theorem State.writeRefusal_clearing (staging : (s.bank b).state = .staging) (outside : o < 1536 ∨ 1596 < o)
    (clearing : s.store.clearing b o = true) : s.writeRefusal b o = some (.busy, none) := by
  simp [State.writeRefusal, staging, inDerivedArea_of_outside outside, clearing]

theorem State.writeRefusal_notClear (staging : (s.bank b).state = .staging) (outside : o < 1536 ∨ 1596 < o)
    (free : s.store.clearing b o = false) (written : ∃ i < 4, wordAt (s.words b) (o + i) ≠ 4294967295) :
    s.writeRefusal b o = some (.notCleared, some .writeNotCleared) := by
  obtain ⟨i, hi, word⟩ := written
  have notClear : unitClear (s.words b) o = false := by
    rw [← Bool.not_eq_true, unitClear_iff]
    exact fun clear => word (clear i hi)
  simp [State.writeRefusal, staging, inDerivedArea_of_outside outside, free, notClear]

theorem State.writeRefusal_writable (h : s.unitWritable b o) : s.writeRefusal b o = none := by
  obtain ⟨staging, outside, free, clear⟩ := h
  simp [State.writeRefusal, staging, inDerivedArea_of_outside outside, free, unitClear_iff.2 clear]

/-! ### What a refused write does -/

/-- A refused write with a capture changes the fault capture record and answers (R142, R178). -/
theorem State.writeUnitAt_captured (taken : s.takes code entry f) {status : Status} {kind : FaultKind}
    (refusal : s.writeRefusal b o = some (status, some kind)) (words : List Word) :
    (s.reserve entry f).writeUnitAt ⟨entry, frameSource f, argumentsOf f⟩ b o words = { s with
      office := s.officeAnswered entry f status []
      responder := { s.responder with
        fault := s.responder.fault.after kind s.clock.lineSeconds (frameSource f)
          (BitVec.ofNat 16 b.code) (BitVec.ofNat 16 o) } } := by
  have refusal : (s.reserve entry f).writeRefusal b o = some (status, some kind) := refusal
  simp only [State.writeUnitAt, refusal]
  exact State.fillReply_taken taken rfl _ _

theorem State.writeUnitAt_busy (taken : s.takes code entry f) {status : Status}
    (refusal : s.writeRefusal b o = some (status, none)) (words : List Word) :
    (s.reserve entry f).writeUnitAt ⟨entry, frameSource f, argumentsOf f⟩ b o words =
      { s with office := s.officeAnswered entry f status [] } := by
  have refusal : (s.reserve entry f).writeRefusal b o = some (status, none) := refusal
  simp only [State.writeUnitAt, refusal]
  exact State.refuse_taken taken status

/-- Whatever holds of the outcomes of the refused writes holds of the first of tests 2 to 5 that applies (R142, R143). -/
theorem State.unitRefusals_of_writeUnitAt (taken : s.takes code entry f) (words : List Word)
    {refused : Status → FaultCapture → Prop}
    (run : ∀ status fault, (s.reserve entry f).writeUnitAt ⟨entry, frameSource f, argumentsOf f⟩ b o words = { s with
      office := s.officeAnswered entry f status [], responder := { s.responder with fault := fault } } →
        refused status fault) : s.unitRefusals f b o refused := by
  have captured {status kind} (refusal : s.writeRefusal b o = some (status, some kind)) :=
    run _ _ (State.writeUnitAt_captured taken refusal words)
  have busy {status} (refusal : s.writeRefusal b o = some (status, none)) :=
    run status s.responder.fault (State.writeUnitAt_busy taken refusal words)
  cases b <;> exact ⟨fun notStaging => captured (State.writeRefusal_notStaging notStaging),
    fun staging low high => captured (State.writeRefusal_derived staging low high),
    fun staging outside clearing => busy (State.writeRefusal_clearing staging outside clearing),
    fun staging outside free written => captured (State.writeRefusal_notClear staging outside free written)⟩

/-! ### What a write that passes its tests does -/

theorem State.bank_putUnit (s : State) (b : BankId) (o : Nat) (words : List Word) :
    (s.putUnit b o words).bank b = { s.bank b with words := writeWords (s.words b) o words } ∧
      (s.putUnit b o words).bank b.other = s.bank b.other ∧ (s.putUnit b o words).store.clear = s.store.clear := by
  cases b <;> exact ⟨rfl, rfl, rfl⟩

theorem State.wordsWf_words (canonical : s.storesCanonical) (b : BankId) : wordsWf (s.words b) := by
  obtain ⟨bankA, bankB, -⟩ := canonical
  cases b
  · exact bankA
  · exact bankB

/-- The words of a unit read back as the four fields of the arguments. -/
theorem wordAt_writeWords_fourWords {m : WordMem} (wf : wordsWf m) (o : Nat) (args : List Octet) (i k : Nat) :
    wordAt (writeWords m o (fourWords args i)) k =
      if o ≤ k ∧ k < o + 4 then BitVec.ofNat 32 (fieldAt args (i + 4 * (k - o)) 4) else wordAt m k := by
  rw [wordAt_writeWords _ _ _ _ wf]
  by_cases low : o ≤ k
  · by_cases high : k < o + 4
    · have place : k - o < 4 := by omega
      simp [fourWords, low, high, place]
    · have place : ¬k - o < 4 := by omega
      simp [fourWords, low, high, place]
  · simp [low]

/-- A write that passes its tests writes its unit, names the next in the load pointer and in the reply (R142, R143). -/
theorem State.unitWritten_writeUnitAt (canonical : s.storesCanonical) (taken : s.takes code entry f)
    (writable : s.unitWritable b o) (i : Nat) :
    s.unitWritten ((s.reserve entry f).writeUnitAt ⟨entry, frameSource f, argumentsOf f⟩ b o
      (fourWords (argumentsOf f) i)) entry f b o i := by
  have refusal : (s.reserve entry f).writeRefusal b o = none := State.writeRefusal_writable writable
  have write : (s.reserve entry f).writeUnitAt ⟨entry, frameSource f, argumentsOf f⟩ b o (fourWords (argumentsOf f) i) =
      { s.putUnit b o (fourWords (argumentsOf f) i) with
        office := s.officeAnswered entry f .done (bankOctets b ++ natToOctets 2 (o + 4)) } := by
    simp only [State.writeUnitAt, refusal]
    exact State.fillReply_taken taken rfl _ _
  obtain ⟨bank, other, clear⟩ := s.bank_putUnit b o (fourWords (argumentsOf f) i)
  rw [write]
  refine ⟨by cases b <;> rfl, rfl, rfl, clear, bank.trans ?_, other, fun k => ?_⟩
  · exact congrArg (fun m => { s.bank b with words := m }) (congrArg Bank.words bank).symm
  · exact (congrArg (wordAt ·.words k) bank).trans
      (wordAt_writeWords_fourWords (State.wordsWf_words canonical b) o _ i k)

/-- A unit write leaves the load pointer, or names the next unit. -/
theorem State.pointerOffset_writeUnitAt (s : State) (q : Request) (b : BankId) (o : Nat) (words : List Word) :
    (s.writeUnitAt q b o words).store.pointerOffset = s.store.pointerOffset ∨
      (s.writeUnitAt q b o words).store.pointerOffset = o + 4 := by
  unfold State.writeUnitAt
  split
  · exact .inl rfl
  · exact .inl rfl
  · exact .inr rfl

/-! ### WRITE UNIT (R142) -/

theorem unitOffset_iff : unitOffset o = true ↔ o % 4 = 0 ∧ o ≤ 16380 := by simp [unitOffset]

/-- A WRITE UNIT whose arguments name a unit is a unit write there. -/
theorem exec_writeUnit (taken : s.takes 5 entry f) (names : bankOf (octetAt (argumentsOf f) 0) = some b)
    (unit : unitOffset (fieldAt (argumentsOf f) 1 2) = true) :
    exec .writeUnit s = .next ((s.reserve entry f).writeUnitAt ⟨entry, frameSource f, argumentsOf f⟩ b
      (fieldAt (argumentsOf f) 1 2) (fourWords (argumentsOf f) 3)) := by
  show s.onRequest 5 State.writeUnitRequest = _
  rw [State.onRequest_takes taken]
  simp only [State.writeUnitRequest, names, unit, if_true]

/-- A WRITE UNIT whose arguments name no unit is refused (Table 8-1, test 1). -/
theorem exec_writeUnit_badArgument (taken : s.takes 5 entry f)
    (bad : bankOf (octetAt (argumentsOf f) 0) = none ∨ unitOffset (fieldAt (argumentsOf f) 1 2) = false) :
    exec .writeUnit s = .next { s with office := s.officeAnswered entry f .badArgument [] } := by
  show s.onRequest 5 State.writeUnitRequest = _
  rw [State.onRequest_takes taken, ← State.refuse_taken taken]
  rcases bad with noBank | noUnit
  · simp only [State.writeUnitRequest, noBank]
  · simp only [State.writeUnitRequest, noUnit]
    split <;> rfl

/-! ### WRITE NEXT and SET POINTER (R143, R144) -/

theorem exec_writeNext (taken : s.takes 6 entry f) (inside : s.store.pointerOffset ≠ 16384) :
    exec .writeNext s = .next ((s.reserve entry f).writeUnitAt ⟨entry, frameSource f, argumentsOf f⟩
      s.store.pointerBank s.store.pointerOffset (fourWords (argumentsOf f) 0)) := by
  show s.onRequest 6 State.writeNextRequest = _
  rw [State.onRequest_takes taken]
  exact congrArg _ (if_neg inside)

theorem exec_writeNext_atEnd (taken : s.takes 6 entry f) (atEnd : s.store.pointerOffset = 16384) :
    exec .writeNext s = .next { s with office := s.officeAnswered entry f .badArgument [] } := by
  show s.onRequest 6 State.writeNextRequest = _
  rw [State.onRequest_takes taken, ← State.refuse_taken taken]
  exact congrArg _ (if_pos atEnd)

/-- WRITE NEXT leaves the load pointer, or moves it from a unit to the next. -/
theorem pointerOffset_writeNext {u : State} (run : exec .writeNext s = .next u) :
    u.store.pointerOffset = s.store.pointerOffset ∨
      (s.store.pointerOffset ≠ 16384 ∧ u.store.pointerOffset = s.store.pointerOffset + 4) := by
  have run : s.onRequest 6 State.writeNextRequest = .next u := run
  obtain rfl | ⟨entry, f, q, rfl⟩ := State.onRequest_next run
  · exact .inl rfl
  · unfold State.writeNextRequest
    split_ifs with atEnd
    · exact .inl rfl
    · have inside : s.store.pointerOffset ≠ 16384 := atEnd
      exact (State.pointerOffset_writeUnitAt _ _ _ _ _).imp_right fun next => ⟨inside, next⟩

theorem exec_setPointer (taken : s.takes 7 entry f) (names : bankOf (octetAt (argumentsOf f) 0) = some b)
    (aligned : fieldAt (argumentsOf f) 1 2 % 4 = 0) (inside : fieldAt (argumentsOf f) 1 2 ≤ 16384) :
    exec .setPointer s = .next { s with
      store := { s.store with pointerBank := b, pointerOffset := fieldAt (argumentsOf f) 1 2 }
      office := s.officeAnswered entry f .done (bankOctets b ++ natToOctets 2 (fieldAt (argumentsOf f) 1 2)) } := by
  show s.onRequest 7 State.setPointerRequest = _
  rw [State.onRequest_takes taken]
  simp only [State.setPointerRequest, names, aligned, inside, and_self, if_true]
  exact congrArg _ (State.fillReply_taken taken rfl _ _)

theorem exec_setPointer_badArgument (taken : s.takes 7 entry f)
    (bad : bankOf (octetAt (argumentsOf f) 0) = none ∨
      ¬(fieldAt (argumentsOf f) 1 2 % 4 = 0 ∧ fieldAt (argumentsOf f) 1 2 ≤ 16384)) :
    exec .setPointer s = .next { s with office := s.officeAnswered entry f .badArgument [] } := by
  show s.onRequest 7 State.setPointerRequest = _
  rw [State.onRequest_takes taken, ← State.refuse_taken taken]
  rcases bad with noBank | noUnit
  · simp only [State.setPointerRequest, noBank]
  · simp only [State.setPointerRequest, noUnit, if_false]
    split <;> rfl

end UnitWrite

/-! ### The load pointer at a restart (R143) -/

theorem State.pointer_breakClear (s : State) : s.breakClear.store.pointerBank = s.store.pointerBank ∧
    s.breakClear.store.pointerOffset = s.store.pointerOffset := by
  unfold State.breakClear State.advanceClear
  cases clear : s.store.clear with
  | none => simp [clear]
  | some c => simp [State.setBank]

theorem State.pointer_advanceCheck (s : State) (b : BankId) :
    (s.advanceCheck b).store.pointerBank = s.store.pointerBank ∧
      (s.advanceCheck b).store.pointerOffset = s.store.pointerOffset := by
  simp only [State.advanceCheck]
  split_ifs <;> simp [State.setBank]

theorem State.pointer_restart (s : State) : s.restart.store.pointerBank = s.store.pointerBank ∧
    s.restart.store.pointerOffset = s.store.pointerOffset := by
  show s.stopStore.store.pointerBank = _ ∧ s.stopStore.store.pointerOffset = _
  simp only [State.stopStore, State.pointer_advanceCheck, State.pointer_breakClear, and_self]

/-- Settles O55: test 1 decides whether the arguments name a unit; the rest is a unit write there. -/
theorem writeUnitGoesByItsTests : Obligations.WriteUnitGoesByItsTests := by
  intro s entry f canonical taken a o refused
  refine ⟨fun bad => exec_writeUnit_badArgument taken ?_, fun b names aligned inside => ?_⟩
  · rcases bad with noBank | noUnit
    · exact .inl (bankOf_eq_none noBank)
    · refine .inr (Bool.eq_false_iff.2 fun unit => ?_)
      obtain ⟨aligned, inside⟩ : o % 4 = 0 ∧ o ≤ 16380 := unitOffset_iff.1 unit
      omega
  · have run := exec_writeUnit taken names (unitOffset_iff.2 ⟨aligned, inside⟩)
    exact ⟨State.unitRefusals_of_writeUnitAt taken _ fun status fault write => run.trans (congrArg _ write),
      fun writable => ⟨_, run, State.unitWritten_writeUnitAt canonical taken writable 3⟩⟩

/-- Settles O56: WRITE NEXT is a unit write at the load pointer, which its end refuses. -/
theorem writeNextAndSetPointer : Obligations.WriteNextAndSetPointer := by
  intro s entry f canonical a o next refused
  refine ⟨fun taken => ⟨exec_writeNext_atEnd taken, fun inside => ?write⟩, ?range, fun dram node => ⟨_, rfl, rfl, rfl⟩,
    ⟨_, rfl, s.pointer_restart⟩, fun b taken names aligned inside => ?set, fun taken bad => ?refused⟩
  case write =>
    have run := exec_writeNext taken inside
    exact ⟨State.unitRefusals_of_writeUnitAt taken _ fun status fault write => run.trans (congrArg _ write),
      fun writable => ⟨_, run, State.unitWritten_writeUnitAt canonical taken writable 0⟩⟩
  case range =>
    intro aligned inside u run
    have moved := pointerOffset_writeNext run
    omega
  case set =>
    have run := exec_setPointer taken names aligned inside
    cases b <;> exact run
  case refused =>
    exact exec_setPointer_badArgument taken (bad.imp bankOf_eq_none fun noPlace ⟨aligned, inside⟩ =>
      noPlace.elim (· aligned) (Nat.not_lt.2 inside))

end Sys2Proof.Machine
end

section
/-!
SCHEDULE and UNSCHEDULE (R146 to R149): the tests of a SCHEDULE as equations, what scheduling makes of the banks, the
bank that an UNSCHEDULE finds, and the obligation from these.
-/
namespace Sys2Proof.Machine

open Sys2Proof

section Schedule

variable {s : State} {entry : Nat} {f : Frame} {b : BankId} {t : LineTime}

/-! ### Banks on the schedule (R146) -/

theorem Bank.onSchedule_iff {k : Bank} : k.onSchedule = true ↔ k.state = .scheduled ∨ k.state = .checking := by
  simp [Bank.onSchedule]

theorem Bank.onSchedule_eq_false {k : Bank} (idle : k.state ≠ .scheduled ∧ k.state ≠ .checking) :
    k.onSchedule = false := by
  rw [← Bool.not_eq_true, Bank.onSchedule_iff]
  exact not_or.2 idle

/-- Beside a bank that is SCHEDULED or CHECKING the other is neither (R146). -/
theorem State.idle_other (sound : s.banksSound) (onSchedule : (s.bank b).onSchedule = true) :
    (s.bank b.other).state ≠ .scheduled ∧ (s.bank b.other).state ≠ .checking := by
  obtain ⟨-, notBoth, -⟩ := sound
  rw [← not_or, ← Bank.onSchedule_iff]
  cases b
  · exact fun other => notBoth ⟨onSchedule, other⟩
  · exact fun other => notBoth ⟨other, onSchedule⟩

theorem TableStore.clearingBank_iff {store : TableStore} :
    store.clearingBank b = true ↔ ∃ c, store.clear = some c ∧ c.bank = b := by
  unfold TableStore.clearingBank
  split <;> simp_all

/-! ### The tests of a SCHEDULE (R147) -/

theorem State.scheduleRefusal_active (h : (s.bank b).state = .active) : s.scheduleRefusal b = some .badState := if_pos h

theorem State.scheduleRefusal_retiring (h : (s.bank b).state = .retiring) : s.scheduleRefusal b = some .inUse := by
  simp [State.scheduleRefusal, h]

theorem State.scheduleRefusal_onSchedule (h : (s.bank b).state = .scheduled ∨ (s.bank b).state = .checking) :
    s.scheduleRefusal b = some .busy := by
  rcases h with h | h <;> simp [State.scheduleRefusal, Bank.onSchedule, h]

theorem State.scheduleRefusal_other (staging : (s.bank b).state = .staging)
    (other : ¬((s.bank b.other).state ≠ .scheduled ∧ (s.bank b.other).state ≠ .checking)) :
    s.scheduleRefusal b = some .busy := by
  have other : (s.bank b.other).onSchedule = true := Bank.onSchedule_iff.2 (by tauto)
  simp [State.scheduleRefusal, Bank.onSchedule_eq_false, staging, other]

theorem State.scheduleRefusal_clearing (staging : (s.bank b).state = .staging)
    (idle : (s.bank b.other).state ≠ .scheduled ∧ (s.bank b.other).state ≠ .checking)
    (clearing : ∃ c, s.store.clear = some c ∧ c.bank = b) : s.scheduleRefusal b = some .busy := by
  simp [State.scheduleRefusal, Bank.onSchedule_eq_false, staging, idle, TableStore.clearingBank_iff.2 clearing]

theorem State.scheduleRefusal_none (staging : (s.bank b).state = .staging)
    (idle : (s.bank b.other).state ≠ .scheduled ∧ (s.bank b.other).state ≠ .checking)
    (free : ∀ c, s.store.clear = some c → c.bank ≠ b) : s.scheduleRefusal b = none := by
  have free : ¬s.store.clearingBank b = true := by
    rw [TableStore.clearingBank_iff]
    exact fun ⟨c, clear, bank⟩ => free c clear bank
  simp [State.scheduleRefusal, Bank.onSchedule_eq_false, staging, idle, free]

/-! ### The bank taken on the schedule (R147, R149) -/

/-- The test of the schedule with one bank put there reaches that bank alone, where the other is not SCHEDULED. -/
theorem State.testSchedule_setBank (other : (s.bank b.other).state ≠ .scheduled) (k : Bank) (now : LineTime) :
    (s.setBank b k).testSchedule now = s.setBank b
      (if s.clock.set = true ∧ s.sweeper.state ≠ .startPass then k.testSchedule now else k) := by
  have kept : (s.bank b.other).testSchedule now = s.bank b.other := Bank.testSchedule_notDue (.inl other)
  by_cases tests : s.clock.set = true ∧ s.sweeper.state ≠ .startPass
  · rw [if_pos tests]
    refine (if_pos tests).trans ?_
    cases b <;> simp only [State.bank, TableStore.bank, BankId.other] at kept <;>
      simp only [State.setBank, TableStore.setBank, kept]
  · rw [if_neg tests]
    exact if_neg tests

theorem State.schedule_later (other : (s.bank b.other).state ≠ .scheduled)
    (later : ¬(s.clock.set = true ∧ s.sweeper.state ≠ .startPass ∧ t.toNat ≤ s.clock.lineSeconds.toNat)) :
    s.schedule b t = s.setBank b { s.bank b with state := .scheduled, activation := some t, checkCode := 0 } := by
  rw [State.schedule, State.testSchedule_setBank other]
  split_ifs with tests
  · obtain ⟨set, outside⟩ := tests
    rw [Bank.testSchedule_notDue]
    exact .inr (.inr ⟨t, rfl, Nat.lt_of_not_le fun come => later ⟨set, outside, come⟩⟩)
  · rfl

theorem State.schedule_now (other : (s.bank b.other).state ≠ .scheduled)
    (now : s.clock.set = true ∧ s.sweeper.state ≠ .startPass ∧ t.toNat ≤ s.clock.lineSeconds.toNat) :
    s.schedule b t = s.setBank b
      { s.bank b with state := .checking, activation := some t, checkCode := 0, derivedDone := 0 } := by
  obtain ⟨set, outside, come⟩ := now
  rw [State.schedule, State.testSchedule_setBank other, if_pos ⟨set, outside⟩, Bank.testSchedule_due rfl rfl come]

/-! ### SCHEDULE (R147) -/

theorem natToOctets_one (v : Nat) : natToOctets 1 v = [BitVec.ofNat 8 v] := by simp [natToOctets]

theorem exec_schedule_badArgument (taken : s.takes 9 entry f) (noBank : bankOf (octetAt (argumentsOf f) 0) = none) :
    exec .schedule s = .next { s with office := s.officeAnswered entry f .badArgument [] } := by
  show s.onRequest 9 State.scheduleRequest = _
  rw [State.onRequest_takes taken, ← State.refuse_taken taken]
  simp only [State.scheduleRequest, noBank]

theorem exec_schedule_refused (taken : s.takes 9 entry f) (names : bankOf (octetAt (argumentsOf f) 0) = some b)
    {status : Status} (refusal : s.scheduleRefusal b = some status) :
    exec .schedule s = .next { s with office := s.officeAnswered entry f status [] } := by
  have refusal : (s.reserve entry f).scheduleRefusal b = some status := refusal
  show s.onRequest 9 State.scheduleRequest = _
  rw [State.onRequest_takes taken, ← State.refuse_taken taken]
  simp only [State.scheduleRequest, names, refusal]

/-- A SCHEDULE that no test refuses, whose scheduling makes `k` of the bank: the reply names bank, time and state. -/
theorem exec_schedule (taken : s.takes 9 entry f) (names : bankOf (octetAt (argumentsOf f) 0) = some b)
    (refusal : s.scheduleRefusal b = none) (time : t = BitVec.ofNat 32 (fieldAt (argumentsOf f) 1 4)) {k : Bank}
    (scheduled : (s.reserve entry f).schedule b t = (s.reserve entry f).setBank b k) :
    exec .schedule s = .next { s with
      store := s.store.setBank b k
      office := s.officeAnswered entry f .done (bankOctets b ++ octetsOf32 t ++ [BitVec.ofNat 8 k.state.code]) } := by
  have refusal : (s.reserve entry f).scheduleRefusal b = none := refusal
  show s.onRequest 9 State.scheduleRequest = _
  rw [State.onRequest_takes taken]
  simp only [State.scheduleRequest, names, refusal, ← time, scheduled, State.bank_setBank_self, natToOctets_one]
  exact congrArg _ (State.fillReply_taken taken rfl _ _)

/-! ### UNSCHEDULE (R148) -/

theorem State.scheduledBank_some (scheduled : (s.bank b).state = .scheduled)
    (other : (s.bank b.other).state ≠ .scheduled) : s.scheduledBank = some b := by
  cases b
  · exact if_pos scheduled
  · exact (if_neg other).trans (if_pos scheduled)

theorem State.scheduledBank_none (h : ∀ b, (s.bank b).state ≠ .scheduled) : s.scheduledBank = none :=
  (if_neg (h .A)).trans (if_neg (h .B))

theorem exec_unschedule (taken : s.takes 10 entry f) (found : s.scheduledBank = some b) :
    exec .unschedule s = .next { s with
      store := s.store.setBank b { s.bank b with state := .staging, activation := none }
      office := s.officeAnswered entry f .done (bankOctets b) } := by
  have found : (s.reserve entry f).scheduledBank = some b := found
  show s.onRequest 10 State.unscheduleRequest = _
  rw [State.onRequest_takes taken]
  simp only [State.unscheduleRequest, found]
  exact congrArg _ (State.fillReply_taken taken rfl _ _)

theorem exec_unschedule_refused (taken : s.takes 10 entry f) (notFound : s.scheduledBank = none) :
    exec .unschedule s = .next { s with
      office := s.officeAnswered entry f
        (if (s.bank .A).state = .checking ∨ (s.bank .B).state = .checking then .busy else .badState) [] } := by
  have notFound : (s.reserve entry f).scheduledBank = none := notFound
  show s.onRequest 10 State.unscheduleRequest = _
  rw [State.onRequest_takes taken, ← State.refuse_taken taken]
  simp only [State.unscheduleRequest, notFound]
  exact congrArg _ (apply_ite (State.refuse _ _) _ _ _).symm

end Schedule

/-- Settles O57: the tests of a SCHEDULE in their order, the bank it leaves, and the one bank an UNSCHEDULE can find. -/
theorem scheduleAndUnschedule : Obligations.ScheduleAndUnschedule := by
  intro s entry f sound a time refused bankOctet idle now
  have octets (b : BankId) : bankOctets b = [bankOctet b] := by cases b <;> rfl
  refine ⟨fun taken noBank => exec_schedule_badArgument taken (bankOf_eq_none noBank),
    fun b taken names => ?schedule, fun taken => ?unschedule⟩
  case schedule =>
    have refusedBy {status} (refusal : s.scheduleRefusal b = some status) : refused status :=
      exec_schedule_refused taken names refusal
    refine ⟨fun active => refusedBy (State.scheduleRefusal_active active),
      fun retiring => refusedBy (State.scheduleRefusal_retiring retiring),
      fun onSchedule => refusedBy (State.scheduleRefusal_onSchedule onSchedule), fun staging =>
      ⟨fun other => refusedBy (State.scheduleRefusal_other staging other),
        fun other clearing => refusedBy (State.scheduleRefusal_clearing staging other clearing),
        fun other free => ?_⟩⟩
    have refusal := State.scheduleRefusal_none staging other free
    obtain ⟨notScheduled, -⟩ := other
    rw [← octets]
    exact ⟨fun later => exec_schedule taken names refusal rfl (State.schedule_later notScheduled later),
      fun come => exec_schedule taken names refusal rfl (State.schedule_now notScheduled come)⟩
  case unschedule =>
    refine ⟨fun b scheduled => ?found, fun b checking => ?busy, fun idleA idleB => ?none⟩
    case found =>
      obtain ⟨other, -⟩ := State.idle_other sound (Bank.onSchedule_iff.2 (.inl scheduled))
      rw [← octets]
      exact exec_unschedule taken (State.scheduledBank_some scheduled other)
    case busy =>
      obtain ⟨other, -⟩ := State.idle_other sound (Bank.onSchedule_iff.2 (.inr checking))
      have notFound : s.scheduledBank = none := State.scheduledBank_none fun k => by
        cases b <;> cases k <;> simp_all [BankId.other]
      have isChecking : (s.bank .A).state = .checking ∨ (s.bank .B).state = .checking := by
        cases b
        · exact .inl checking
        · exact .inr checking
      rw [exec_unschedule_refused taken notFound, if_pos isChecking]
    case none =>
      obtain ⟨notScheduledA, notCheckingA⟩ := idleA
      obtain ⟨notScheduledB, notCheckingB⟩ := idleB
      have notFound : s.scheduledBank = none := State.scheduledBank_none fun k => by cases k <;> assumption
      rw [exec_unschedule_refused taken notFound, if_neg (not_or.2 ⟨notCheckingA, notCheckingB⟩)]

end Sys2Proof.Machine
end

section
/-!
The failure of an activation check (R2, R149, R151): each step of the check is its condition in Table 8-4, the code is
that of the first step that fails, and the checksum is a sum over the counted offsets.
-/
namespace Sys2Proof.Machine

open Sys2Proof

section CheckSteps

variable {m : WordMem}

/-! ### Each step is its condition in Table 8-4 (R149) -/

theorem inRange_iff {x lo hi : Nat} : inRange x lo hi = true ↔ lo ≤ x ∧ x ≤ hi := by simp [inRange]

theorem all_range_iff {n : Nat} {p : Nat → Bool} : (List.range n).all p = true ↔ ∀ i < n, p i = true := by simp

theorem strictlyIncreases_iff {n : Nat} {g : Nat → Nat} :
    strictlyIncreases n g = true ↔ ∀ i, i + 1 < n → g i < g (i + 1) := by
  simp only [strictlyIncreases, all_range_iff, decide_eq_true_eq, Nat.lt_sub_iff_add_lt]

theorem checksum_step_iff : (checksum m == 0) = true ↔ stepHolds m 1 := beq_iff_eq

theorem countsInRange_iff : countsInRange m = true ↔ stepHolds m 2 := by
  simp only [countsInRange, stepHolds, Bool.and_eq_true, inRange_iff, Nat.zero_le, true_and, Nat.forall_lt_succ_right,
    Nat.not_lt_zero, false_imp_iff, implies_true]
  tauto

/-- A minimum fare not above the maximum is in range where the maximum is. -/
theorem parametersInRange_iff : parametersInRange m = true ↔ stepHolds m 3 := by
  simp only [parametersInRange, stepHolds, Bool.and_eq_true, inRange_iff, all_range_iff, decide_eq_true_eq,
    Nat.zero_le, true_and, and_assoc]
  exact ⟨fun ⟨boarding, _, maximum, low, high, mode, order, others⟩ =>
      ⟨boarding, maximum, order, low, high, mode, others⟩,
    fun ⟨boarding, maximum, order, low, high, mode, others⟩ =>
      ⟨boarding, order.trans maximum, maximum, low, high, mode, order, others⟩⟩

theorem stationBranchesInForce_iff : stationBranchesInForce m = true ↔ stepHolds m 4 := by
  simp only [stationBranchesInForce, stepHolds, all_range_iff, decide_eq_true_eq]

/-- The tiers are numbered from 1 (R11). -/
theorem tiersIncrease_iff : tiersIncrease m = true ↔ stepHolds m 5 := by
  simp only [tiersIncrease, stepHolds, strictlyIncreases_iff]
  constructor
  · intro rises i first inside
    obtain ⟨j, rfl⟩ := Nat.exists_eq_add_of_le' first
    exact rises j (by omega)
  · exact fun rises i inside => rises (i + 1) (Nat.succ_pos i) (by omega)

theorem bandsIncrease_iff : bandsIncrease m = true ↔ stepHolds m 6 := by
  simp only [bandsIncrease, stepHolds, all_range_iff, Bool.and_eq_true, beq_iff_eq, strictlyIncreases_iff]

theorem holidaysIncrease_iff : holidaysIncrease m = true ↔ stepHolds m 7 := strictlyIncreases_iff

theorem overridesInOrder_iff : overridesInOrder m = true ↔ stepHolds m 8 := by
  simp only [overridesInOrder, stepHolds, all_range_iff, Bool.and_eq_true, Bool.or_eq_true, decide_eq_true_eq,
    beq_iff_eq, Nat.lt_sub_iff_add_lt]

/-- Two territories that each hold a chainage overlap exactly where they share one. -/
theorem territoriesOverlap_iff {t u : Nat} (ht : territoryFrom m t < territoryTo m t)
    (hu : territoryFrom m u < territoryTo m u) : territoriesOverlap m t u = true ↔
      territoryBranch m t = territoryBranch m u ∧ ∃ x, (territoryFrom m t ≤ x ∧ x < territoryTo m t) ∧
        territoryFrom m u ≤ x ∧ x < territoryTo m u := by
  simp only [territoriesOverlap, Bool.and_eq_true, beq_iff_eq, decide_eq_true_eq, and_assoc]
  refine and_congr_right fun _ => ⟨fun ⟨_, _⟩ => ⟨max (territoryFrom m t) (territoryFrom m u), ?_⟩, fun ⟨x, _⟩ => ?_⟩ <;>
    omega

/-- The model tests each pair once, the table speaks of both orders. -/
theorem territoriesSound_iff : territoriesSound m = true ↔ stepHolds m 9 := by
  simp only [territoriesSound, stepHolds, all_range_iff, Bool.and_eq_true, decide_eq_true_eq, and_assoc,
    Bool.not_eq_true', ← Bool.not_eq_true]
  refine and_congr_right fun each => ⟨fun once t ht u hu distinct branch x both => ?_, fun apart t ht u hu overlap => ?_⟩
  · obtain ⟨nonempty_t, -⟩ := each t ht
    obtain ⟨nonempty_u, -⟩ := each u hu
    rcases Nat.lt_or_gt_of_ne distinct with before | after
    · exact once u hu t before ((territoriesOverlap_iff nonempty_u nonempty_t).2 ⟨branch.symm, x, by tauto⟩)
    · exact once t ht u after ((territoriesOverlap_iff nonempty_t nonempty_u).2 ⟨branch, x, by tauto⟩)
  · have hu' : u < territoryCount m := hu.trans ht
    obtain ⟨nonempty_t, -⟩ := each t ht
    obtain ⟨nonempty_u, -⟩ := each u hu'
    obtain ⟨branch, x, both⟩ := (territoriesOverlap_iff nonempty_t nonempty_u).1 overlap
    exact apart t ht u hu' hu.ne' branch x (by tauto)

theorem denyListSound_iff : denyListSound m = true ↔ stepHolds m 10 := by
  simp only [denyListSound, stepHolds, all_range_iff, Bool.and_eq_true, strictlyIncreases_iff, bne_iff_ne]

/-! ### The code of the first step that fails (R149, R151) -/

theorem holds_iff_stepHolds {code : Nat} {holds : WordMem → Bool} (step : (code, holds) ∈ checkSteps) :
    holds m = true ↔ stepHolds m code := by
  simp only [checkSteps, List.mem_cons, List.not_mem_nil, or_false, Prod.mk.injEq] at step
  rcases step with ⟨rfl, rfl⟩ | ⟨rfl, rfl⟩ | ⟨rfl, rfl⟩ | ⟨rfl, rfl⟩ | ⟨rfl, rfl⟩ | ⟨rfl, rfl⟩ | ⟨rfl, rfl⟩ |
    ⟨rfl, rfl⟩ | ⟨rfl, rfl⟩ | ⟨rfl, rfl⟩
  exacts [checksum_step_iff, countsInRange_iff, parametersInRange_iff, stationBranchesInForce_iff, tiersIncrease_iff,
    bandsIncrease_iff, holidaysIncrease_iff, overridesInOrder_iff, territoriesSound_iff, denyListSound_iff]

/-- The codes of the steps are 1 to 10, in order. -/
theorem codes_checkSteps : checkSteps.map Prod.fst = List.range' 1 10 := rfl

theorem exists_mem_checkSteps_iff {k : Nat} : (∃ holds, (k, holds) ∈ checkSteps) ↔ 1 ≤ k ∧ k ≤ 10 := by
  have mem : k ∈ checkSteps.map Prod.fst ↔ 1 ≤ k ∧ k ≤ 10 := by
    rw [codes_checkSteps, List.mem_range'_1]
    omega
  simpa using mem

theorem firstFailure_eq_none_iff {steps : List (Nat × (WordMem → Bool))} :
    firstFailure steps m = none ↔ ∀ step ∈ steps, step.2 m = true := by
  induction steps with
  | nil => simp [firstFailure]
  | cons step rest ih =>
    rw [firstFailure, List.forall_mem_cons]
    split_ifs with passed
    · simp [passed, ih]
    · simp [passed]

/-- In steps of rising codes the failing step fails and every step of a lower code holds. -/
theorem firstFailure_eq_some {steps : List (Nat × (WordMem → Bool))} {code : Nat}
    (rising : (steps.map Prod.fst).Pairwise (· < ·)) (failure : firstFailure steps m = some code) :
    (∃ holds, (code, holds) ∈ steps ∧ holds m = false) ∧ ∀ step ∈ steps, step.1 < code → step.2 m = true := by
  induction steps with
  | nil => simp [firstFailure] at failure
  | cons step rest ih =>
    obtain ⟨first, test⟩ := step
    obtain ⟨above, rising⟩ := List.pairwise_cons.1 rising
    rw [firstFailure] at failure
    split_ifs at failure with passed
    · obtain ⟨⟨holds, mem, fails⟩, lower⟩ := ih rising failure
      exact ⟨⟨holds, List.mem_cons_of_mem _ mem, fails⟩, List.forall_mem_cons.2 ⟨fun _ => passed, lower⟩⟩
    · obtain rfl : first = code := Option.some.inj failure
      exact ⟨⟨test, List.mem_cons_self .., Bool.eq_false_iff.2 passed⟩, List.forall_mem_cons.2
        ⟨fun below => absurd below (lt_irrefl _),
          fun later mem below => absurd below (above later.1 (List.mem_map_of_mem mem)).asymm⟩⟩

theorem checkFailure_eq_none_iff : checkFailure m = none ↔ ∀ k, 1 ≤ k → k ≤ 10 → stepHolds m k := by
  rw [checkFailure, firstFailure_eq_none_iff]
  constructor
  · intro all k low high
    obtain ⟨holds, mem⟩ := exists_mem_checkSteps_iff.2 ⟨low, high⟩
    exact (holds_iff_stepHolds mem).1 (all (k, holds) mem)
  · intro all ⟨k, holds⟩ mem
    obtain ⟨low, high⟩ := exists_mem_checkSteps_iff.1 ⟨holds, mem⟩
    exact (holds_iff_stepHolds mem).2 (all k low high)

theorem checkFailure_eq_some {code : Nat} (failure : checkFailure m = some code) :
    (∃ holds, (code, holds) ∈ checkSteps ∧ holds m = false) ∧
      ∀ step ∈ checkSteps, step.1 < code → step.2 m = true :=
  firstFailure_eq_some (by rw [codes_checkSteps]; exact List.pairwise_lt_range') failure

end CheckSteps

/-! ### The checksum (R2) -/

section Checksum

open Finset

variable {m : WordMem}

/-- The offsets that the checksum counts: every one but those of the derived area. -/
def countedOffsets : Finset Nat := range 16384 \ Ico 1536 1600

theorem card_countedOffsets : #countedOffsets = 16320 := by
  rw [countedOffsets, card_sdiff_of_subset]
  · simp
  · intro o ho
    simp only [mem_Ico, mem_range] at ho ⊢
    omega

theorem mem_countedOffsets {o : Nat} : o ∈ countedOffsets ↔ countedOffset o = true := by
  simp only [countedOffsets, countedOffset, mem_sdiff, mem_range, mem_Ico, Bool.and_eq_true, Bool.not_eq_true',
    decide_eq_true_eq, ← Bool.not_eq_true]

/-- What the words at some offsets add to the cleared word is what the listed words there add to it. -/
theorem sum_wordAt_sub_clearedWord (rising : sparseRising m) (offsets : Finset Nat) :
    ∑ o ∈ offsets, (wordAt m o - Config.clearedWord) =
      ((m.filter (·.1 ∈ offsets)).map (·.2)).sum -
        ((m.filter (·.1 ∈ offsets)).length : Word) * Config.clearedWord := by
  induction m with
  | nil => simp [wordAt, sparseGet]
  | cons e m ih =>
    obtain ⟨above, rising⟩ := sparseRising_cons.1 rising
    have unlisted : wordAt m e.1 = Config.clearedWord := by
      rw [wordAt, sparseGet_none_of_lt m e.1 above, Option.getD_none]
    have split (o : Nat) : wordAt (e :: m) o - Config.clearedWord =
        (if o = e.1 then e.2 - Config.clearedWord else 0) + (wordAt m o - Config.clearedWord) := by
      split_ifs with here
      · subst here
        rw [unlisted, sub_self, add_zero]
        simp [wordAt, sparseGet]
      · simp [wordAt, sparseGet, Ne.symm here]
    simp only [split, sum_add_distrib, sum_ite_eq', ih rising, List.filter_cons, decide_eq_true_eq]
    split_ifs with counted
    · simp only [List.map_cons, List.sum_cons, List.length_cons, Nat.cast_succ]
      ring
    · rw [zero_add]

/-- No more words are listed at some offsets than there are offsets. -/
theorem length_filter_le_card (rising : sparseRising m) (offsets : Finset Nat) :
    (m.filter (·.1 ∈ offsets)).length ≤ #offsets := by
  have distinct : ((m.filter (·.1 ∈ offsets)).map Prod.fst).Nodup :=
    (sparseRising_filter m _ rising).imp Nat.ne_of_lt
  calc (m.filter (·.1 ∈ offsets)).length = #((m.filter (·.1 ∈ offsets)).map Prod.fst).toFinset := by
        rw [List.toFinset_card_of_nodup distinct, List.length_map]
    _ ≤ #offsets := card_le_card fun o ho => by
        obtain ⟨e, he, rfl⟩ := List.mem_map.1 (List.mem_toFinset.1 ho)
        simpa using (List.mem_filter.1 he).2

/-- The words at some offsets add up to the listed words there, and the cleared word for each offset not listed. -/
theorem sum_wordAt_eq (rising : sparseRising m) (offsets : Finset Nat) :
    ∑ o ∈ offsets, wordAt m o = ((m.filter (·.1 ∈ offsets)).map (·.2)).sum +
      BitVec.ofNat 32 (#offsets - (m.filter (·.1 ∈ offsets)).length) * Config.clearedWord := by
  have excess := sum_wordAt_sub_clearedWord rising offsets
  rw [sum_sub_distrib, sum_const, nsmul_eq_mul] at excess
  have cast : BitVec.ofNat 32 (#offsets - (m.filter (·.1 ∈ offsets)).length) =
      (#offsets : Word) - ((m.filter (·.1 ∈ offsets)).length : Word) :=
    Nat.cast_sub (length_filter_le_card rising offsets)
  rw [cast, sub_mul]
  linear_combination excess

/-- The counted offsets in their order. -/
def countedList : List Nat := (List.range 16384).filter fun o => decide (o < 1536 ∨ 1599 < o)

theorem toFinset_countedList : countedList.toFinset = countedOffsets := by
  ext o
  simp only [countedList, List.mem_toFinset, List.mem_filter, List.mem_range, decide_eq_true_eq, countedOffsets, mem_sdiff,
    mem_range, mem_Ico]
  omega

theorem nodup_countedList : countedList.Nodup := List.nodup_range.filter _

/-- A sum taken word by word, from the first counted offset to the last. -/
theorem foldl_add_eq_sum (l : List Nat) (g : Nat → Word) : l.foldl (fun sum o => sum + g o) 0 = (l.map g).sum := by
  rw [List.sum_eq_foldl, List.foldl_map]

theorem checksum_eq (rising : sparseRising m) : checksum m = ∑ o ∈ countedOffsets, wordAt m o := by
  rw [sum_wordAt_eq rising, card_countedOffsets, List.sum_eq_foldl, List.foldl_map]
  simp only [mem_countedOffsets, Bool.decide_eq_true]
  rfl

end Checksum

/-! ### The failure of a check (R151) -/

theorem State.checkingBank_eq {s : State} {b : BankId} (checking : (s.bank b).state = .checking)
    (other : (s.bank b.other).state ≠ .checking) : s.checkingBank = some b := by
  cases b
  · exact if_pos checking
  · exact (if_neg other).trans (if_pos checking)

theorem exec_activationCheckEnd_fail {s : State} {b : BankId} {code : Nat} (checking : (s.bank b).state = .checking)
    (other : (s.bank b.other).state ≠ .checking) (failure : checkFailure (s.words b) = some code) :
    exec .activationCheckEnd s = .next (s.failCheckAt b code) := by
  show execActivationCheckEnd s = _
  rw [execActivationCheckEnd, State.checkingBank_eq checking other, ← State.endCheck_fail failure]

/-- Settles O50: the code is that of the first failing step, and the checksum a sum over the counted offsets. -/
theorem failedCheckReturnsTheBank : Obligations.FailedCheckReturnsTheBank := by
  refine ⟨fun s b code checking other failure => ?fails, fun m code holds => holds_iff_stepHolds,
    fun m => checkFailure_eq_none_iff, fun m ⟨rising, _⟩ => ?sum⟩
  case fails =>
    obtain ⟨⟨holds, mem, fails⟩, lower⟩ := checkFailure_eq_some failure
    obtain ⟨low, high⟩ := exists_mem_checkSteps_iff.1 ⟨holds, mem⟩
    refine ⟨?_, low, high, ⟨holds, mem, fails⟩, fun k holds => lower (k, holds), ?_, fun k first below => ?_⟩
    · rw [exec_activationCheckEnd_fail checking other failure]
      cases b <;> rfl
    · rw [← holds_iff_stepHolds mem, fails]
      exact Bool.false_ne_true
    · obtain ⟨test, step⟩ := exists_mem_checkSteps_iff.2 ⟨first, below.le.trans high⟩
      exact (holds_iff_stepHolds step).1 (lower (k, test) step below)
  case sum =>
    calc checksum m = ∑ o ∈ countedOffsets, wordAt m o := checksum_eq rising
      _ = (countedList.map (wordAt m)).sum := by
        rw [← toFinset_countedList, List.sum_toFinset _ nodup_countedList]
      _ = _ := (foldl_add_eq_sum _ _).symm

end Sys2Proof.Machine
end


section
/-!
What a command can do, said once: each outcome of `exec` with the conditions under which it comes about. A command in a
state in which its event cannot come about leaves the state (log 1). Every statement about all commands is a case
analysis over these outcomes.
-/
namespace Sys2Proof.Machine

open Sys2Proof

/-- The row of each request command: what the block that answers the request makes of the state with the entry
reserved. A payload that fails the Responder's checks is refused BAD_ARGUMENT (R171). -/
inductive RequestRow : Instr → (State → Request → State) → Prop
  | status : RequestRow .status fun s q => s.answer q .done (statusData s)
  | setTime : RequestRow .setTime State.setTime
  | setTrim : RequestRow .setTrim State.setTrim
  | clearSegment : RequestRow .clearSegment State.clearSegmentRequest
  | writeUnit : RequestRow .writeUnit State.writeUnitRequest
  | writeNext : RequestRow .writeNext State.writeNextRequest
  | setPointer : RequestRow .setPointer State.setPointerRequest
  | readUnit : RequestRow .readUnit State.readUnitRequest
  | schedule : RequestRow .schedule State.scheduleRequest
  | unschedule : RequestRow .unschedule State.unscheduleRequest
  | readBanks : RequestRow .readBanks State.readBanksRequest
  | sweepConfig : RequestRow .sweepConfig State.sweepConfigRequest
  | sweepStart : RequestRow .sweepStart State.sweepStartRequest
  | sweepStop : RequestRow .sweepStop State.sweepStopRequest
  | readToken : RequestRow .readToken State.readTokenRequest
  | assistExit : RequestRow .assistExit State.assistExitRequest
  | setChannels : RequestRow .setChannels State.setChannelsRequest
  | readFault : RequestRow .readFault fun s q => s.answer q .done (faultData s.responder.fault)
  | clearFault : RequestRow .clearFault State.clearFaultRequest
  | restart : RequestRow .restart State.restartRequest
  | unknownRequest : RequestRow .unknownRequest fun s q => s.refuse q .badArgument

/-- The outcomes of a command. -/
inductive Moves (s : State) : Instr → State → Prop
  | stay (c : Instr) : Moves s c s
  | powerUp (dram : DramStrap) (node : Octet) : Moves s (.powerUp dram node) (s.powerUp dram node)
  | reset : Moves s .resetLineInput s.restart
  | secondBoundary : Moves s .secondBoundary s.secondBoundary
  | millisecondTick : Moves s .millisecondTick s.millisecondTick
  | pauseRunsOut : Moves s .pauseRunsOut s.beginBurst
  | routed (port : Port) (f : Frame) : Moves s (.frameReceived port f) ((s.setAwait port false).routeFrame port f)
  | notWellFormed (port : Port) (f : Frame) (kind source : Octet) :
      Moves s (.frameReceived port f) ((s.setAwait port false).failCheck port kind source)
  | overlength (port : Port) (kind source : Octet) :
      Moves s (.frameOverlengthDiscard port kind source) ((s.setAwait port true).failCheck port kind source)
  | pauseAsserted (port : Port) : Moves s (.farEndPauseAsserted port) (s.setFarEndPause port true)
  | pauseReleased (port : Port) : Moves s (.farEndPauseReleased port) ((s.setFarEndPause port false).beginFrame port)
  | frameBegin (port : Port) : Moves s (.frameBegin port) (s.beginFrame port)
  | stationFrameEnd : Moves s (.frameTransmissionEnd .station) s.endStationFrame
  | officeFrameEnd : Moves s (.frameTransmissionEnd .office) s.endOfficeFrame
  | tapFrameTaken {f : Frame} {rest : List Frame} {slot : Nat} (work : s.matcher.work = .none)
      (queued : s.station.intake = f :: rest) : Moves s .tapFrameTaken ((s.claimSlot f slot).startFrame f slot)
  | rejudged {h : Handling} {bank : BankId} (work : s.matcher.work = .rejudge h) (active : s.activeBank = some bank) :
      Moves s .tapRecord (s.judgeRecord h bank)
  | recordBegun {f : FrameInWork} {t : TapRecord} {rest : List TapRecord} (work : s.matcher.work = .none) :
      Moves s .tapRecord ((s.beginRecord f rest).testRecord (f.handling t))
  | slotTaken {c : Instr} {h : Handling} (work : s.matcher.work = .waitReservation h ∨ s.matcher.work = .waitSecond h)
      (granted : s.slots.matcherRequest = .granted)
      (row : c = .reservationGranted ∨ c = .secondReservationGranted) : Moves s c (s.takeSlot h)
  | tapHoldGranted {h : Handling} {b : Nat} {read : Reading} (work : s.matcher.work = .waitHold h)
      (held : s.holds.matcher = .held b read) : Moves s .tapHoldGranted (s.handleHold b h read.now)
  | assistTaken {token : Token} {station gate : Octet} {entry : Nat} (work : s.matcher.work = .none) :
      Moves s .assistExitTaken (s.takeAssist token station gate entry)
  | jobTaken {job : Job} {rest : List Job} (idle : s.fau.state = .idle) (queued : s.fau.jobs = job :: rest) :
      Moves s .jobTakenIntoWork
        { s with fau := { s.fau with jobs := rest }.beginComputing (s.words job.bank) job }.arbitrate
  | computed {job : Job} : Moves s .computationComplete
      { s with fau :=
        s.fau.endComputing (job.withStageOne (s.words job.bank)) (computeFare (s.words job.bank) job.journey job.cls) }
  | displacedSettled {job : Job} {r : FareResult} (room : s.office.settlements.length < 64) :
      Moves s .waitSettlementEnd
        (((s.writeBackUntracked job r s.fau.channels).releaseRef job.bank).setFau .idle)
  | holdAsked {job : Job} {r : FareResult} (state : s.fau.state = .waitSettlement job r)
      (room : s.office.settlements.length < 64) :
      Moves s .waitSettlementEnd ((s.setFau (.waitHold job r)).requestHold .fau (s.bucketOf job.token))
  | writeBack {job : Job} {r : FareResult} {b : Nat} {read : Reading} (state : s.fau.state = .waitHold job r)
      (held : s.holds.fau = .held b read) : Moves s .writeBack (s.writeBack b job r read)
  | examined {b : Nat} {read : Reading} (held : s.holds.sweeper = .held b read) (burst : s.sweeper.inBurst = true) :
      Moves s .sweepHoldGranted (s.examineBucket b read.now)
  | sweeperSlotTaken (granted : s.slots.sweeperRequest = .granted) : Moves s .sweeperSlotGranted
      ({ s with
        sweeper := { s.sweeper with state := .burst }
        slots := { s.slots with sweeperRequest := .none } }.requestHold .sweeper s.sweeper.pointer)
  | powerUpPass {b : Nat} {read : Reading} (held : s.holds.sweeper = .held b read) (pass : s.sweeper.state = .startPass) :
      Moves s .powerUpStartPassBucket ({ s.emptyBucket b with dramWritten := b + 1 }.nextPassBucket b)
  | restartPass {b : Nat} {read : Reading} (held : s.holds.sweeper = .held b read) (pass : s.inRestartPass = true) :
      Moves s .restartStartPassBucket (s.restartPassBucket b)
  | passSlotTaken (granted : s.slots.sweeperRequest = .granted) : Moves s .startPassSlotGranted
      ({ s with slots := { s.slots with sweeperRequest := .none } }.requestHold .sweeper s.sweeper.passBucket)
  | clearCompleted {c : Clear} (clear : s.store.clear = some c) : Moves s .clearCompletion (s.completeClear c)
  | checkEnded {b : BankId} (checking : s.checkingBank = some b) : Moves s .activationCheckEnd (s.endCheck b)
  | tokenRead {token : Token} {entry : Nat} (free : s.holds.heldIn (s.bucketOf token) = false) :
      Moves s .tokenRecordRead
        ({ s.readRecord token entry with responder := { s.responder with inWork := none } }.grantNext (s.bucketOf token))
  | request {c : Instr} {handle : State → Request → State} {entry : Nat} {f : Frame} {q : Request}
      (row : RequestRow c handle) (next : s.nextRequest = some (entry, f)) :
      Moves s c (handle (s.reserve entry f) q)

/-- Some outcome of the command is a next state. -/
def Answers (s : State) (c : Instr) (r : Result) : Prop := ∃ t, r = .next t ∧ Moves s c t

theorem Answers.stays (s : State) (c : Instr) : Answers s c (.next s) := ⟨s, rfl, .stay c⟩

theorem Answers.of {s t : State} {c : Instr} (h : Moves s c t) : Answers s c (.next t) := ⟨t, rfl, h⟩

/-- A request row stays, or hands the request to its block. -/
theorem answers_onRequest (s : State) {c : Instr} {handle : State → Request → State} (row : RequestRow c handle)
    (code : Nat) : Answers s c (s.onRequest code handle) := by
  unfold State.onRequest
  split
  · next next =>
    split_ifs
    · exact .of (.request row next)
    · exact .stays s c
  · exact .stays s c

theorem answers_unknownRequest (s : State) : Answers s .unknownRequest (execUnknownRequest s) := by
  unfold execUnknownRequest
  split
  · next entry f next =>
    split_ifs
    · exact .stays s _
    · exact .of (.request (q := ⟨entry, frameSource f, []⟩) .unknownRequest next)
  · exact .stays s _

theorem answers_tapRecord (s : State) : Answers s .tapRecord (execTapRecord s) := by
  unfold execTapRecord
  split
  · next work =>
    split
    · next active => exact .of (.rejudged work active)
    · exact .stays s _
  · next work frame =>
    split
    · split_ifs
      · exact .stays s _
      · exact .of (.recordBegun work)
    · exact .stays s _
  · exact .stays s _

theorem answers_waitSettlementEnd (s : State) : Answers s .waitSettlementEnd (execWaitSettlementEnd s) := by
  unfold execWaitSettlementEnd
  split
  · next state =>
    split_ifs with room
    · exact .of (.displacedSettled room)
    · exact .of (.holdAsked state room)
    · exact .stays s _
  · exact .stays s _

theorem answers_tokenRecordRead (s : State) : Answers s .tokenRecordRead (execTokenRecordRead s) := by
  unfold execTokenRecordRead
  split
  · split_ifs with held
    · exact .stays s _
    · exact .of (.tokenRead (by simpa using held))
  · exact .stays s _

/-- Every command answers, with one of its outcomes. -/
theorem exec_answers (c : Instr) (s : State) : Answers s c (exec c s) := by
  cases c with
  | powerUp dram node => exact .of (.powerUp dram node)
  | resetLineInput => exact .of .reset
  | secondBoundary => exact .of .secondBoundary
  | millisecondTick => exact .of .millisecondTick
  | pauseRunsOut =>
    show Answers s _ (execPauseRunsOut s)
    unfold execPauseRunsOut
    split_ifs
    · exact .of .pauseRunsOut
    · exact .stays s _
  | frameReceived port f =>
    show Answers s _ (execFrameReceived port f s)
    unfold execFrameReceived
    split_ifs
    · exact .of (.routed port f)
    · exact .of (.notWellFormed port f _ _)
  | frameOverlengthDiscard port kind source => exact .of (.overlength port kind source)
  | farEndPauseAsserted port => exact .of (.pauseAsserted port)
  | farEndPauseReleased port => exact .of (.pauseReleased port)
  | frameBegin port => exact .of (.frameBegin port)
  | frameTransmissionEnd port =>
    cases port with
    | station => exact .of .stationFrameEnd
    | office => exact .of .officeFrameEnd
  | tapFrameTaken =>
    show Answers s _ (execTapFrameTaken s)
    unfold execTapFrameTaken
    split
    · exact .of (.tapFrameTaken ‹_› ‹_›)
    · exact .stays s _
  | tapRecord => exact answers_tapRecord s
  | reservationGranted =>
    show Answers s _ (execReservationGranted s)
    unfold execReservationGranted
    split
    · exact .of (.slotTaken (.inl ‹_›) ‹_› (.inl rfl))
    · exact .stays s _
  | secondReservationGranted =>
    show Answers s _ (execSecondReservationGranted s)
    unfold execSecondReservationGranted
    split
    · exact .of (.slotTaken (.inr ‹_›) ‹_› (.inr rfl))
    · exact .stays s _
  | tapHoldGranted =>
    show Answers s _ (execTapHoldGranted s)
    unfold execTapHoldGranted
    split
    · exact .of (.tapHoldGranted ‹_› ‹_›)
    · exact .stays s _
  | assistExitTaken =>
    show Answers s _ (execAssistExitTaken s)
    unfold execAssistExitTaken
    split
    · exact .of (.assistTaken ‹_›)
    · exact .stays s _
  | jobTakenIntoWork =>
    show Answers s _ (execJobTakenIntoWork s)
    unfold execJobTakenIntoWork
    split
    · exact .of (.jobTaken ‹_› ‹_›)
    · exact .stays s _
  | computationComplete =>
    show Answers s _ (execComputationComplete s)
    unfold execComputationComplete
    split
    · exact .of .computed
    · exact .stays s _
  | waitSettlementEnd => exact answers_waitSettlementEnd s
  | writeBack =>
    show Answers s _ (execWriteBack s)
    unfold execWriteBack
    split
    · exact .of (.writeBack ‹_› ‹_›)
    · exact .stays s _
  | sweepHoldGranted =>
    show Answers s _ (execSweepHoldGranted s)
    unfold execSweepHoldGranted
    split
    · split_ifs with burst
      · exact .of (.examined ‹_› burst)
      · exact .stays s _
    · exact .stays s _
  | sweeperSlotGranted =>
    show Answers s _ (execSweeperSlotGranted s)
    unfold execSweeperSlotGranted
    split_ifs with h
    · exact .of (.sweeperSlotTaken h.2)
    · exact .stays s _
  | powerUpStartPassBucket =>
    show Answers s _ (execPowerUpStartPassBucket s)
    unfold execPowerUpStartPassBucket
    split
    · split_ifs with pass
      · exact .of (.powerUpPass ‹_› pass.1)
      · exact .stays s _
    · exact .stays s _
  | restartStartPassBucket =>
    show Answers s _ (execRestartStartPassBucket s)
    unfold execRestartStartPassBucket
    split
    · split_ifs with pass
      · exact .of (.restartPass ‹_› pass)
      · exact .stays s _
    · exact .stays s _
  | startPassSlotGranted =>
    show Answers s _ (execStartPassSlotGranted s)
    unfold execStartPassSlotGranted
    split_ifs with h
    · exact .of (.passSlotTaken h.2)
    · exact .stays s _
  | clearCompletion =>
    show Answers s _ (execClearCompletion s)
    unfold execClearCompletion
    split
    · exact .of (.clearCompleted ‹_›)
    · exact .stays s _
  | activationCheckEnd =>
    show Answers s _ (execActivationCheckEnd s)
    unfold execActivationCheckEnd
    split
    · exact .of (.checkEnded ‹_›)
    · exact .stays s _
  | tokenRecordRead => exact answers_tokenRecordRead s
  | unknownRequest => exact answers_unknownRequest s
  | status => exact answers_onRequest s .status 1
  | setTime => exact answers_onRequest s .setTime 2
  | setTrim => exact answers_onRequest s .setTrim 3
  | clearSegment => exact answers_onRequest s .clearSegment 4
  | writeUnit => exact answers_onRequest s .writeUnit 5
  | writeNext => exact answers_onRequest s .writeNext 6
  | setPointer => exact answers_onRequest s .setPointer 7
  | readUnit => exact answers_onRequest s .readUnit 8
  | schedule => exact answers_onRequest s .schedule 9
  | unschedule => exact answers_onRequest s .unschedule 10
  | readBanks => exact answers_onRequest s .readBanks 11
  | sweepConfig => exact answers_onRequest s .sweepConfig 12
  | sweepStart => exact answers_onRequest s .sweepStart 13
  | sweepStop => exact answers_onRequest s .sweepStop 14
  | readToken => exact answers_onRequest s .readToken 15
  | assistExit => exact answers_onRequest s .assistExit 16
  | setChannels => exact answers_onRequest s .setChannels 17
  | readFault => exact answers_onRequest s .readFault 18
  | clearFault => exact answers_onRequest s .clearFault 19
  | restart => exact answers_onRequest s .restart 20

/-- A next state of a command is one of its outcomes. -/
theorem moves_of_exec {c : Instr} {s t : State} (run : exec c s = .next t) : Moves s c t := by
  obtain ⟨u, hu, moves⟩ := exec_answers c s
  rw [hu] at run
  cases run
  exact moves

/-- What every outcome of every command keeps, and a period of the timing input, every step keeps. -/
theorem step_keeps {I : State → Prop} (free : ∀ s rest, I s → I (s.withPending rest))
    (period : ∀ s, I s → I s.referencePeriod) (moved : ∀ s c t, I s → Moves s c t → I t) :
    ∀ s t : State, I s → step s = .next t → I t := by
  intro s t holds run
  unfold step at run
  split at run
  · exact moved _ _ _ (free s _ holds) (moves_of_exec run)
  · cases run
    exact period s holds

end Sys2Proof.Machine
end


section
/-!
The work of a block: what the Matcher, the FAU, the Sweeper and the Responder leave as it is while they handle records,
jobs and buckets. One relation says it once, each shared operation keeps it, and so does every activity made of them.
-/
namespace Sys2Proof.Machine

open Sys2Proof

/-- A bank as the work of a block leaves it: its words and its check code stand, and its state, but that a RETIRING bank
may be STAGING (R153, R154) and a SCHEDULED one CHECKING (R149). -/
structure Bank.Kept (k l : Bank) : Prop where
  words : l.words = k.words
  checkCode : l.checkCode = k.checkCode
  state : l.state = k.state ∨ (k.state = .retiring ∧ l.state = .staging) ∨ (k.state = .scheduled ∧ l.state = .checking)

theorem Bank.Kept.refl (k : Bank) : k.Kept k := ⟨rfl, rfl, .inl rfl⟩

theorem Bank.Kept.trans {k l m : Bank} (h : k.Kept l) (i : l.Kept m) : k.Kept m := by
  obtain ⟨w, c, st⟩ := h
  obtain ⟨w', c', st'⟩ := i
  refine ⟨w'.trans w, c'.trans c, ?_⟩
  rcases st with e | ⟨e, f⟩ | ⟨e, f⟩ <;> rcases st' with e' | ⟨e', f'⟩ | ⟨e', f'⟩ <;> simp_all

/-- The records after work in a bucket: those of every other bucket stand, and the table stays in canonical form. Work
without a bucket leaves the whole table. -/
def State.tableKept (s t : State) : Option Nat → Prop
  | none => t.table = s.table
  | some b => s.sameWaysOutside t b ∧ (sparseRising s.table → sparseRising t.table)

/-- The queues of both ports stand with their pause conditions, and so does the number of their places. -/
structure PortsKept (p q : StationPort) (o r : OfficePort) : Prop where
  intake : q.intake = p.intake ∧ r.intake = o.intake
  passing : q.passDown = p.passDown ∧ r.passUp = o.passUp
  places : q.verdicts.length = p.verdicts.length ∧ r.replies.length = o.replies.length
  intakeCondition : q.intakeCondition = p.intakeCondition ∧ r.intakeCondition = o.intakeCondition
  forwardCondition : q.forwardCondition = p.forwardCondition ∧ r.forwardCondition = o.forwardCondition

/-- The queues of the ports in `t` are those in `s`. -/
abbrev State.QueuesKept (s t : State) : Prop := PortsKept s.station t.station s.office t.office

namespace PortsKept

variable {s t u : State}

theorem refl (s : State) : s.QueuesKept s := ⟨⟨rfl, rfl⟩, ⟨rfl, rfl⟩, ⟨rfl, rfl⟩, ⟨rfl, rfl⟩, ⟨rfl, rfl⟩⟩

theorem of_ports (station : t.station = s.station) (office : t.office = s.office) : s.QueuesKept t := by
  constructor <;> exact ⟨by rw [station], by rw [office]⟩

protected theorem trans (h : s.QueuesKept t) (k : t.QueuesKept u) : s.QueuesKept u where
  intake := ⟨k.intake.1.trans h.intake.1, k.intake.2.trans h.intake.2⟩
  passing := ⟨k.passing.1.trans h.passing.1, k.passing.2.trans h.passing.2⟩
  places := ⟨k.places.1.trans h.places.1, k.places.2.trans h.places.2⟩
  intakeCondition := ⟨k.intakeCondition.1.trans h.intakeCondition.1, k.intakeCondition.2.trans h.intakeCondition.2⟩
  forwardCondition := ⟨k.forwardCondition.1.trans h.forwardCondition.1, k.forwardCondition.2.trans h.forwardCondition.2⟩

theorem setEntry (s : State) (i p : Nat) (f : VerdictEntry → VerdictEntry) : s.QueuesKept (s.setEntry i p f) := by
  unfold State.setEntry
  split
  · obtain ⟨intake, pass, ic, fc, -, -, -, -, length⟩ := StationPort.settleSlot_frame
      { s.station with verdicts := s.station.verdicts.set i { ‹VerdictSlot› with entries := _ } } i
    exact ⟨⟨intake, rfl⟩, ⟨pass, rfl⟩, ⟨length.trans List.length_set, rfl⟩, ⟨ic, rfl⟩, ⟨fc, rfl⟩⟩
  · exact refl s

theorem fillReply (s : State) (i : Nat) (x : Status) (d : List Octet) : s.QueuesKept (s.fillReply i x d) :=
  ⟨⟨rfl, rfl⟩, ⟨rfl, rfl⟩, ⟨rfl, List.length_modify ..⟩, ⟨rfl, rfl⟩, ⟨rfl, rfl⟩⟩

end PortsKept

/-- Where a block works: the bucket whose records it may write, if any, and whether it is the FAU, whose state and whose
settlements nothing else changes. -/
structure Scope where
  bucket : Option Nat := none
  ofFau : Bool := false

/-- The state after some work of a block in a scope. -/
structure State.Worked (sc : Scope) (s t : State) : Prop where
  clock : t.clock = s.clock
  bucketCount : t.bucketCount = s.bucketCount
  node : t.node = s.node
  pending : t.pending = s.pending
  channels : t.fau.channels = s.fau.channels
  discarded : t.responder.discardedSettlements = s.responder.discardedSettlements
  bank : ∀ k, (s.bank k).Kept (t.bank k)
  clear : t.store.clear = s.store.clear
  pointer : t.store.pointerOffset = s.store.pointerOffset
  table : s.tableKept t sc.bucket
  fau : sc.ofFau = false → t.fau.state = s.fau.state ∧ t.office.settlements = s.office.settlements
  queues : s.QueuesKept t

namespace State.Worked

variable {sc : Scope} {s t : State}

theorem refl (sc : Scope) (s : State) : s.Worked sc s where
  clock := rfl
  bucketCount := rfl
  node := rfl
  pending := rfl
  channels := rfl
  discarded := rfl
  bank k := .refl _
  clear := rfl
  pointer := rfl
  table := by
    cases sc.bucket with
    | none => rfl
    | some b => exact ⟨fun _ _ => rfl, id⟩
  fau _ := ⟨rfl, rfl⟩
  queues := PortsKept.refl s

/-! ### One field set -/

theorem setHolds (w : s.Worked sc t) (h : Holds) : s.Worked sc { t with holds := h } := { w with }

theorem setSlots (w : s.Worked sc t) (x : Slots) : s.Worked sc { t with slots := x } := { w with }

theorem setMatcher (w : s.Worked sc t) (m : Matcher) : s.Worked sc { t with matcher := m } := { w with }

theorem setSweeper (w : s.Worked sc t) (x : Sweeper) : s.Worked sc { t with sweeper := x } := { w with }

theorem setFau (w : s.Worked sc t) (ofFau : sc.ofFau = true) (f : FauState) : s.Worked sc (t.setFau f) :=
  { w with fau := fun no => by simp [ofFau] at no }

theorem setInWork (w : s.Worked sc t) (x : Option RequestInWork) :
    s.Worked sc { t with responder := { t.responder with inWork := x } } := { w with }

theorem count (w : s.Worked sc t) (f : Counters → Counters) : s.Worked sc (t.count f) := { w with }

theorem capture (w : s.Worked sc t) (k : FaultKind) (o : Octet) (x y : Nat) : s.Worked sc (t.capture k o x y) :=
  { w with }

/-! ### The shared operations -/

theorem setBank (w : s.Worked sc t) {b : BankId} {v : Bank} (kept : (t.bank b).Kept v) : s.Worked sc (t.setBank b v) where
  clock := w.clock
  bucketCount := w.bucketCount
  node := w.node
  pending := w.pending
  channels := w.channels
  discarded := w.discarded
  bank k := by
    by_cases hk : k = b
    · subst hk
      rw [State.bank_setBank_self]
      exact (w.bank k).trans kept
    · rw [State.bank_setBank_ne _ _ hk]
      exact w.bank k
  clear := by
    obtain ⟨-, -, clear⟩ := t.store.setBank_pointer b v
    exact clear.trans w.clear
  pointer := by
    obtain ⟨-, pointer, -⟩ := t.store.setBank_pointer b v
    exact pointer.trans w.pointer
  table := w.table
  fau := w.fau
  queues := w.queues

theorem makeRef (w : s.Worked sc t) (b : BankId) : s.Worked sc (t.makeRef b) := w.setBank ⟨rfl, rfl, .inl rfl⟩

theorem releaseRef (w : s.Worked sc t) (b : BankId) : s.Worked sc (t.releaseRef b) := by
  refine w.setBank ⟨rfl, rfl, ?_⟩
  dsimp only
  split_ifs with h
  · exact .inr (.inl ⟨h.1, rfl⟩)
  · exact .inl rfl

theorem releaseRecent (w : s.Worked sc t) (p : Option RecentPart) : s.Worked sc (t.releaseRecent p) := by
  cases p with
  | none => exact w
  | some p => exact w.releaseRef p.bank

theorem requestHold (w : s.Worked sc t) (who : Holder) (b : Nat) : s.Worked sc (t.requestHold who b) := by
  rw [State.requestHold_eq]
  exact w.setHolds _

theorem releaseHold (w : s.Worked sc t) (who : Holder) (b : Nat) : s.Worked sc (t.releaseHold who b) := by
  rw [State.releaseHold_only]
  exact w.setHolds _

theorem grantNext (w : s.Worked sc t) (b : Nat) : s.Worked sc (t.grantNext b) := by
  rw [State.grantNext_only]
  exact w.setHolds _

theorem arbitrate (w : s.Worked sc t) : s.Worked sc t.arbitrate := by
  rw [State.arbitrate_only]
  exact w.setSlots _

theorem requestMatcherSlot (w : s.Worked sc t) : s.Worked sc t.requestMatcherSlot := (w.setSlots _).arbitrate

theorem returnMatcherSlots (w : s.Worked sc t) : s.Worked sc t.returnMatcherSlots := (w.setSlots _).arbitrate

theorem requestSweeperSlot (w : s.Worked sc t) : s.Worked sc t.requestSweeperSlot := (w.setSlots _).arbitrate

theorem returnSweeperSlot (w : s.Worked sc t) : s.Worked sc t.returnSweeperSlot := (w.setSlots _).arbitrate

theorem submit (w : s.Worked sc t) (j : Job) : s.Worked sc (t.submit j) := { w with }

theorem submitMatcher (w : s.Worked sc t) (j : Job) : s.Worked sc (t.submitMatcher j) := (w.setSlots _).submit j

theorem submitSweeper (w : s.Worked sc t) (j : Job) : s.Worked sc (t.submitSweeper j) := (w.setSlots _).submit j

theorem setEntry (w : s.Worked sc t) (i p : Nat) (f : VerdictEntry → VerdictEntry) : s.Worked sc (t.setEntry i p f) := by
  have queues := w.queues.trans (PortsKept.setEntry t i p f)
  rw [State.setEntry_only] at queues ⊢
  exact { w with queues := queues }

theorem setVerdict (w : s.Worked sc t) (h : Handling) (e : VerdictEntry) : s.Worked sc (t.setVerdict h e) := by
  unfold State.setVerdict
  split
  · exact w.setEntry _ _ _
  · exact w

theorem fillReply (w : s.Worked sc t) (i : Nat) (x : Status) (d : List Octet) : s.Worked sc (t.fillReply i x d) :=
  { w with queues := w.queues.trans (PortsKept.fillReply t i x d) }

theorem appendSettlement (w : s.Worked sc t) (ofFau : sc.ofFau = true) (x : Settlement) : s.Worked sc (t.appendSettlement x) :=
  { w with
    queues := w.queues.trans ⟨⟨rfl, rfl⟩, ⟨rfl, rfl⟩, ⟨rfl, rfl⟩, ⟨rfl, rfl⟩, ⟨rfl, rfl⟩⟩
    fau := fun no => by simp [ofFau] at no }

/-- A way of the bucket in work is written. -/
theorem putWay {b v : Nat} {f : Bool} (w : s.Worked ⟨some b, f⟩ t) (hv : v < 8) (r : Option TokenRecord) :
    s.Worked ⟨some b, f⟩ (t.putWay b v r) :=
  { w with
    table := ⟨fun k hk => by
        rw [State.putWay_get_ne _ _ _ _ (by simp only [wayKey, Config.ways]; omega)]
        exact w.table.1 k hk,
      fun rising => sparseRising_put _ _ _ (w.table.2 rising)⟩ }

theorem setWork (w : s.Worked sc t) (x : MatcherWork) : s.Worked sc (t.setWork x) := w.setMatcher _

theorem seekHold (w : s.Worked sc t) (h : Handling) : s.Worked sc (t.seekHold h) := (w.setWork _).requestHold _ _

theorem seekSlot (w : s.Worked sc t) (x : MatcherWork) : s.Worked sc (t.seekSlot x) := (w.setWork _).requestMatcherSlot

theorem notice (w : s.Worked sc t) (b : Nat) (k : Token) : s.Worked sc (t.notice b k) := by
  unfold State.notice
  split
  · split_ifs
    · exact (w.setMatcher _).requestHold _ _
    · exact w
  · split_ifs
    · exact (w.setMatcher _).requestHold _ _
    · exact w
  · exact w

/-! ### The Matcher's records (R83 to R108) -/

theorem endWork (w : s.Worked sc t) (h : Handling) : s.Worked sc (t.endWork h) := by
  unfold State.endWork
  dsimp only
  split
  · exact ((w.setWork _).setMatcher _).returnMatcherSlots
  · exact ((w.setWork _).setInWork _).returnMatcherSlots

theorem countTaken (w : s.Worked sc t) (h : Handling) : s.Worked sc (t.countTaken h) := by
  unfold State.countTaken
  split
  · exact w.count _
  · exact w

theorem refuseRecord (w : s.Worked sc t) (h : Handling) (k : VerdictKind) : s.Worked sc (t.refuseRecord h k) :=
  (((w.setVerdict _ _).count _).count _).endWork h

theorem judgeRecord (w : s.Worked sc t) (h : Handling) (b : BankId) : s.Worked sc (t.judgeRecord h b) := by
  unfold State.judgeRecord
  dsimp only
  split_ifs
  · exact (w.capture _ _ _ _).refuseRecord _ _
  · exact w.refuseRecord _ _
  · unfold State.admitRecord
    split_ifs
    · exact w.seekSlot _
    · exact w.seekHold _

theorem testRecord (w : s.Worked sc t) (h : Handling) : s.Worked sc (t.testRecord h) := by
  unfold State.testRecord
  split
  · exact w.refuseRecord _ _
  · split_ifs
    · exact w.refuseRecord _ _
    · exact w.judgeRecord _ _

theorem takeSlot (w : s.Worked sc t) (h : Handling) : s.Worked sc (t.takeSlot h) := (w.setSlots _).seekHold h

theorem answerAssist (w : s.Worked sc t) (i : Nat) (x : Status) : s.Worked sc (t.answerAssist i x) :=
  (w.fillReply i x []).setInWork _

theorem takeAssist (w : s.Worked sc t) (k : Token) (station gate : Octet) (i : Nat) :
    s.Worked sc (t.takeAssist k station gate i) := by
  unfold State.takeAssist
  split
  · exact w.answerAssist _ _
  · split_ifs
    · exact w.answerAssist _ _
    · exact (w.setInWork _).seekSlot _

theorem waitAfterHold (w : s.Worked sc t) (b : Nat) (x : MatcherWork) : s.Worked sc (t.waitAfterHold b x) :=
  (w.setWork x).releaseHold _ _

theorem finish (w : s.Worked sc t) (b : Nat) (h : Handling) : s.Worked sc (t.finish b h) :=
  ((w.releaseHold _ _).countTaken h).endWork h

theorem vacate (w : s.Worked sc t) (b : Nat) (h : Handling) (p : Placement) : s.Worked sc (t.vacate b h p) := by
  cases p with
  | free _ => exact w
  | evict _ r => exact (w.releaseRecent _).count _
  | displace _ r o => exact (((w.releaseRecent _).count _).capture _ _ _ _).submitMatcher _
  | full => exact w

end State.Worked

end Sys2Proof.Machine
end


section
/-!
The hold of each block as work in its bucket: the tap hold (R92 to R108), the write-back (R41 to R54), the examination
(R116 to R121) and the two start passes (R122 to R125).
-/
namespace Sys2Proof.Machine

open Sys2Proof

/-! ### The way of an insertion lies in its bucket (Table 4-4) -/

/-- The oldest of some candidates is one of them. -/
theorem oldest_mem {α : Type} (key : α → Nat) : ∀ {l : List α} {x : α}, oldest key l = some x → x ∈ l
  | [], _, h => by simp [oldest] at h
  | y :: l, x, h => by
    simp only [oldest] at h
    split at h
    · obtain rfl := Option.some.inj h
      simp
    · next z hz =>
      split_ifs at h
      · obtain rfl := Option.some.inj h
        exact List.mem_cons_of_mem _ (oldest_mem key hz)
      · obtain rfl := Option.some.inj h
        simp

theorem State.mem_occupied {s : State} {b : Nat} {e : Nat × TokenRecord} :
    e ∈ s.occupied b ↔ e.1 < 8 ∧ s.way b e.1 = some e.2 := by
  obtain ⟨v, r⟩ := e
  simp only [State.occupied, List.mem_filterMap, List.mem_range, Option.map_eq_some_iff, Prod.mk.injEq, Config.ways]
  constructor
  · rintro ⟨_, hv, _, hr, rfl, rfl⟩
    exact ⟨hv, hr⟩
  · rintro ⟨hv, hr⟩
    exact ⟨v, hv, r, hr, rfl, rfl⟩

theorem State.freeWay_some {s : State} {b w : Nat} {day : BitVec 16} (h : s.freeWay b day = some w) :
    w < 8 ∧ ∀ r, s.way b w = some r → r.stale day = true := by
  obtain ⟨hp, hm⟩ : _ ∧ w ∈ List.range Config.ways := ⟨List.find?_some h, List.mem_of_find?_eq_some h⟩
  exact ⟨List.mem_range.1 hm, fun r hr => by simpa [hr] using hp⟩

theorem State.evictionWay_some {s : State} {b w : Nat} {r : TokenRecord} (h : s.evictionWay b = some (w, r)) :
    w < 8 ∧ s.way b w = some r ∧ r.openPart = none ∧ r.closing = none := by
  have hm := oldest_mem _ h
  simp only [List.mem_filter, State.mem_occupied, Bool.and_eq_true, Option.isNone_iff_eq_none] at hm
  obtain ⟨⟨hw, hr⟩, ho, hc⟩ := hm
  exact ⟨hw, hr, ho, hc⟩

theorem State.displacementWay_some {s : State} {b w : Nat} {r : TokenRecord} {o : OpenPart}
    (h : s.displacementWay b = some (w, r, o)) :
    w < 8 ∧ s.way b w = some r ∧ r.openPart = some o ∧ r.closing = none := by
  have hm := oldest_mem _ h
  simp only [List.mem_filterMap] at hm
  obtain ⟨⟨v, x⟩, hx, he⟩ := hm
  obtain ⟨hv, hr⟩ := State.mem_occupied.1 hx
  cases ho : x.openPart with
  | none => simp [ho] at he
  | some p =>
    simp only [ho] at he
    split_ifs at he with hc
    simp only [Option.some.injEq, Prod.mk.injEq] at he
    obtain ⟨rfl, rfl, rfl⟩ := he
    exact ⟨hv, hr, ho, by simpa using hc⟩

theorem State.way_placement_lt (s : State) (b : Nat) (day : BitVec 16) : (s.placement b day).way < 8 := by
  unfold State.placement
  split
  · next h => exact (State.freeWay_some h).1
  · split
    · next h => exact (State.evictionWay_some h).1
    · split
      · next h => exact (State.displacementWay_some h).1
      · exact Nat.zero_lt_succ _

/-! ### The tap hold (R92 to R108) -/

/-- The state in the tap hold of bucket `b`, with the record handled and its hold not yet released: work was done in the
bucket, `n` jobs were submitted, and what the end of the hold goes by stands. -/
structure State.Prepared (b n : Nat) (s t : State) : Prop where
  worked : s.Worked ⟨some b, false⟩ t
  matcher : t.matcher = s.matcher
  holds : t.holds = s.holds
  inWork : t.responder.inWork = s.responder.inWork
  sweeper : t.sweeper = s.sweeper
  request : t.slots.matcherRequest = s.slots.matcherRequest
  sweeperSlots : t.slots.sweeperRequest = s.slots.sweeperRequest ∧ t.slots.sweeperReserved = s.slots.sweeperReserved
  jobs : t.fau.jobs.length = s.fau.jobs.length + n

namespace State.Prepared

variable {b n w : Nat} {s t : State}

theorem refl (b : Nat) (s : State) : s.Prepared b 0 s := ⟨.refl _ s, rfl, rfl, rfl, rfl, rfl, ⟨rfl, rfl⟩, rfl⟩

theorem count (p : s.Prepared b n t) (f : Counters → Counters) : s.Prepared b n (t.count f) :=
  { p with worked := p.worked.count f }

theorem capture (p : s.Prepared b n t) (k : FaultKind) (o : Octet) (x y : Nat) : s.Prepared b n (t.capture k o x y) :=
  { p with worked := p.worked.capture k o x y }

theorem putWay (p : s.Prepared b n t) (hw : w < 8) (r : Option TokenRecord) : s.Prepared b n (t.putWay b w r) :=
  { p with worked := p.worked.putWay hw r }

theorem makeRef (p : s.Prepared b n t) (k : BankId) : s.Prepared b n (t.makeRef k) :=
  { p with worked := p.worked.makeRef k }

theorem releaseRecent (p : s.Prepared b n t) (x : Option RecentPart) : s.Prepared b n (t.releaseRecent x) := by
  have worked := p.worked.releaseRecent x
  cases x with
  | none => exact p
  | some x => exact { p with worked := worked }

theorem submitMatcher (p : s.Prepared b n t) (j : Job) : s.Prepared b (n + 1) (t.submitMatcher j) :=
  { p with
    worked := p.worked.submitMatcher j
    jobs := by rw [← Nat.add_assoc, ← p.jobs]; exact List.length_append }

theorem setVerdict (p : s.Prepared b n t) (h : Handling) (e : VerdictEntry) : s.Prepared b n (t.setVerdict h e) := by
  have worked := p.worked.setVerdict h e
  unfold State.setVerdict at worked ⊢
  split at worked
  · rw [State.setEntry_only] at worked ⊢
    exact { p with worked := worked }
  · exact p

theorem fillReply (p : s.Prepared b n t) (i : Nat) (x : Status) (d : List Octet) : s.Prepared b n (t.fillReply i x d) :=
  { p with worked := p.worked.fillReply i x d }

/-- Making room in a way submits a job where it displaces a journey. -/
theorem vacate (p : s.Prepared b n t) (h : Handling) (x : Placement) :
    s.Prepared b (n + if x.displaces then 1 else 0) (t.vacate b h x) := by
  cases x with
  | free _ => exact p
  | evict _ r => exact (p.releaseRecent _).count _
  | displace _ r o => exact (((p.releaseRecent _).count _).capture _ _ _ _).submitMatcher _
  | full => exact p

end State.Prepared

/-- What the hold of bucket `b` for a record comes to: it waits, or asks for a second reservation, with nothing else
changed, or ends with the jobs that its reservations cover. -/
inductive State.HoldEnds (s : State) (b : Nat) (h : Handling) : State → Prop
  | waits {w : MatcherWork} (same : w = .waitToken h ∨ w = .waitBucket h ∨ w = .rejudge h) :
      HoldEnds s b h (s.waitAfterHold b w)
  | asks (one : s.slots.matcherReserved < 2) : HoldEnds s b h (s.waitAfterHold b (.waitSecond h)).requestMatcherSlot
  | ends {n : Nat} {u : State} (prepared : s.Prepared b n u)
      (covered : n ≤ 1 ∨ (n ≤ 2 ∧ 2 ≤ s.slots.matcherReserved)) : HoldEnds s b h (u.finish b h)

namespace State.HoldEnds

variable {b : Nat} {s : State} {h : Handling} {found : Option (Nat × TokenRecord)}

theorem claimFails : s.HoldEnds b h (s.claimFails b h) := .waits (.inr (.inr rfl))

theorem endClosed (way : ∀ w r, found = some (w, r) → w < 8) (now : LineTime) :
    s.HoldEnds b h (s.endClosed b h found now) := by
  unfold State.endClosed
  dsimp only
  split
  · exact .ends ((((State.Prepared.refl b s).putWay (way _ _ rfl) _).setVerdict _ _).count _) (by omega)
  · exact .ends (((State.Prepared.refl b s).setVerdict _ _).count _) (by omega)

theorem enterNew {p : Placement} (way : p.way < 8) (now : LineTime) (day : BitVec 16) :
    s.HoldEnds b h (s.enterNew b h p now day) :=
  .ends ((((((State.Prepared.refl b s).makeRef _).vacate _ _).putWay way _)).setVerdict _ _) (by split_ifs <;> omega)

/-- An entry ends, waits for a way of the bucket, or begins again (R93, R96 to R98). -/
theorem handleEntry (way : ∀ w r, found = some (w, r) → w < 8) (now : LineTime) (day : BitVec 16) :
    s.HoldEnds b h (s.handleEntry b h found now day) := by
  unfold State.handleEntry
  split
  · exact claimFails
  · split
    · exact endClosed way now
    · split
      · have hw := way _ _ rfl
        split
        · split
          · exact .ends (((((State.Prepared.refl b s).makeRef _).putWay hw _).submitMatcher _).setVerdict _ _) (by omega)
          · exact .ends ((((State.Prepared.refl b s).makeRef _).putWay hw _).setVerdict _ _) (by omega)
        · exact claimFails
      · split
        · exact .waits (.inr (.inl rfl))
        · split
          · exact enterNew (s.way_placement_lt b day) now day
          · exact claimFails

theorem closeOpen {w : Nat} (hw : w < 8) (r : TokenRecord) (c : ClosingPart) (e : VerdictEntry) :
    s.HoldEnds b h (s.closeOpen b w h r c e) :=
  .ends ((((State.Prepared.refl b s).putWay hw _).submitMatcher _).setVerdict _ _) (by omega)

/-- An unmatched exit submits its job after those of the insertion it comes with (R104). -/
theorem exitUnmatched {w n : Nat} {t : State} (prepared : s.Prepared b n t) (hw : w < 8)
    (covered : n = 0 ∨ (n = 1 ∧ 2 ≤ s.slots.matcherReserved)) (r : TokenRecord) (now : LineTime) :
    s.HoldEnds b h (t.exitUnmatched b w h r now) :=
  .ends (((prepared.putWay hw _).submitMatcher _).setVerdict _ _) (by omega)

/-- An unmatched exit by a token with no record (R24, R104). -/
theorem exitNew (now : LineTime) (day : BitVec 16) : s.HoldEnds b h (s.exitNew b h now day) := by
  unfold State.exitNew
  dsimp only
  split
  · exact .waits (.inr (.inl rfl))
  · split
    · next second => exact .asks second.2
    · next enough =>
      split
      · refine exitUnmatched (((State.Prepared.refl b s).makeRef _).vacate _ _) (s.way_placement_lt b day) ?_ _ _
        split_ifs with displaces
        · exact .inr ⟨rfl, Nat.not_lt.1 fun few => enough ⟨displaces, few⟩⟩
        · exact .inl rfl
      · exact claimFails

theorem exitNoOpen (way : ∀ w r, found = some (w, r) → w < 8) (now : LineTime) (day : BitVec 16) :
    s.HoldEnds b h (s.exitNoOpen b h found now day) := by
  have unmatched : ∀ w r, w < 8 → s.HoldEnds b h ((s.makeRef h.judging).exitUnmatched b w h r now) := fun w r hw =>
    exitUnmatched ((State.Prepared.refl b s).makeRef _) hw (.inl rfl) r now
  unfold State.exitNoOpen
  split
  · exact exitNew now day
  · have hw := way _ _ rfl
    split
    · split
      · exact .ends ((((State.Prepared.refl b s).putWay hw _).submitMatcher _).setVerdict _ _) (by omega)
      · split
        · exact unmatched _ _ hw
        · exact claimFails
    · split
      · exact unmatched _ _ hw
      · exact claimFails

theorem handleTap (way : ∀ w r, found = some (w, r) → w < 8) (now : LineTime) (day : BitVec 16) :
    s.HoldEnds b h (s.handleTap b h found now day) := by
  unfold State.handleTap
  split
  · split
    · exact handleEntry way now day
    · exact exitNoOpen way now day
  · have hw := way _ _ rfl
    split
    · exact claimFails
    · split
      · exact .ends ((((State.Prepared.refl b s).putWay hw _).setVerdict _ _).count _) (by omega)
      · split
        · exact handleEntry way now day
        · split
          · unfold State.exitOpen
            dsimp only
            split
            · exact closeOpen hw _ _ _
            · exact closeOpen hw _ _ _
          · exact exitNoOpen way now day

theorem handleAssist (way : ∀ w r, found = some (w, r) → w < 8) (entry : Nat) (now : LineTime) :
    s.HoldEnds b h (s.handleAssist b h entry found now) := by
  unfold State.handleAssist
  split
  · exact .ends ((State.Prepared.refl b s).fillReply _ _ _) (by omega)
  · split
    · exact closeOpen (way _ _ rfl) _ _ _
    · exact .ends ((State.Prepared.refl b s).fillReply _ _ _) (by omega)

/-- Every tap hold comes to one of the three ends. -/
theorem handleHold (s : State) (b : Nat) (h : Handling) (now : LineTime) : s.HoldEnds b h (s.handleHold b h now) := by
  have way : ∀ w r, s.lookup b h.tap.token = some (w, r) → w < 8 := fun w r found => (State.lookup_some found).1
  unfold State.handleHold
  dsimp only
  split
  · exact .waits (.inl rfl)
  · split
    · exact handleTap way _ _
    · exact handleAssist way _ _

/-- The hold of a record is work in its bucket. -/
theorem worked {t : State} (e : s.HoldEnds b h t) : s.Worked ⟨some b, false⟩ t := by
  cases e with
  | waits _ => exact (State.Worked.refl _ s).waitAfterHold _ _
  | asks _ => exact ((State.Worked.refl _ s).waitAfterHold _ _).requestMatcherSlot
  | ends prepared _ => exact prepared.worked.finish _ _

end State.HoldEnds

namespace State.Worked

variable {sc : Scope} {b w : Nat} {f : Bool} {s t : State}

/-! ### The write-back (R41 to R54) -/

theorem answerJob (k : s.Worked sc t) (job : Job) (x : Settlement) (c : Charge) : s.Worked sc (t.answerJob job x c) := by
  unfold State.answerJob
  split
  · exact k
  · exact k.setEntry _ _ _
  · exact k.fillReply _ _ _

theorem report (k : s.Worked sc t) (ofFau : sc.ofFau = true) (job : Job) (r : FareResult) (c : Charge) (channels : BitVec 4) :
    s.Worked sc (t.report job r c channels) := (k.appendSettlement ofFau _).answerJob _ _ _

theorem writeBackUntracked (k : s.Worked sc t) (ofFau : sc.ofFau = true) (job : Job) (r : FareResult) (channels : BitVec 4) :
    s.Worked sc (t.writeBackUntracked job r channels) := k.report ofFau _ _ _ _

theorem settleParts (k : s.Worked ⟨some b, f⟩ t) (hw : w < 8) (job : Job) (old : TokenRecord) (c : Charge) (now : LineTime) :
    s.Worked ⟨some b, f⟩ (t.settleParts b w job old c now) := by
  unfold State.settleParts
  split
  · split_ifs
    · exact (k.putWay hw _).releaseRecent _
    · exact (k.putWay hw _).releaseRef _
  · exact (k.putWay hw _).releaseRef _

theorem releaseFau (k : s.Worked sc t) (ofFau : sc.ofFau = true) (c : Nat) (job : Job) (removed : Bool) :
    s.Worked sc (t.releaseFau c job removed) := by
  unfold State.releaseFau
  dsimp only
  split_ifs
  · exact ((k.notice _ _).setFau ofFau _).releaseHold _ _
  · exact (k.setFau ofFau _).releaseHold _ _

theorem writeBack (k : s.Worked ⟨some b, true⟩ t) (job : Job) (r : FareResult) (read : Reading) :
    s.Worked ⟨some b, true⟩ (t.writeBack b job r read) := by
  unfold State.writeBack
  split
  · next found =>
    exact ((k.settleParts (State.lookupClosing_some found).1 _ _ _ _).report rfl _ _ _ _).releaseFau rfl _ _ _
  · exact (k.writeBackUntracked rfl _ _ _).releaseFau rfl _ _ _

/-! ### The examination of a bucket (R116 to R121) -/

theorem dropOverdue (k : s.Worked ⟨some b, f⟩ t) (hw : w < 8) (r : TokenRecord) (now : LineTime) :
    s.Worked ⟨some b, f⟩ (t.dropOverdue b w r now).1 := by
  unfold State.dropOverdue
  split
  · split_ifs
    · exact (k.putWay hw _).releaseRef _
    · exact k
  · exact k

theorem examineRecord (k : s.Worked ⟨some b, f⟩ t) (hw : w < 8) (r : TokenRecord) (now : LineTime) :
    s.Worked ⟨some b, f⟩ (t.examineRecord b w r now).1 := by
  have dropped := k.dropOverdue hw r now
  unfold State.examineRecord
  generalize t.dropOverdue b w r now = d at dropped
  obtain ⟨u, q⟩ := d
  dsimp only at dropped ⊢
  split
  · split_ifs
    · exact (dropped.putWay hw _).submitSweeper _
    · exact dropped
    · exact dropped
  · split_ifs
    · exact dropped.putWay hw _
    · exact dropped

theorem examineWay (k : s.Worked ⟨some b, f⟩ t) (hw : w < 8) (now : LineTime) :
    s.Worked ⟨some b, f⟩ (t.examineWay b w now).1 := by
  unfold State.examineWay
  split
  · split_ifs
    · exact k
    · exact k.examineRecord hw _ _
  · exact k

theorem examineWays (now : LineTime) : ∀ {ws : List Nat} {t : State}, s.Worked ⟨some b, f⟩ t → (∀ w ∈ ws, w < 8) →
    s.Worked ⟨some b, f⟩ (t.examineWays b now ws).1
  | [], _, k, _ => k
  | w :: ws, t, k, hws => by
    have one := k.examineWay (hws w (by simp)) now
    unfold State.examineWays
    split
    · next u hu =>
      rw [hu] at one
      exact one
    · next u hu =>
      rw [hu] at one
      exact examineWays now one fun v hv => hws v (by simp [hv])

theorem continueBurst (k : s.Worked sc t) : s.Worked sc t.continueBurst := by
  unfold State.continueBurst
  split_ifs
  · exact k.requestHold _ _
  · exact k.setSweeper _

theorem fullyExamined (k : s.Worked sc t) (c : Nat) : s.Worked sc (t.fullyExamined c) :=
  (((k.setSweeper _).releaseHold _ _).returnSweeperSlot).continueBurst

theorem blocked (k : s.Worked sc t) (c : Nat) : s.Worked sc (t.blocked c) := by
  unfold State.blocked
  dsimp only
  split_ifs
  · exact (k.releaseHold _ _).setSweeper _
  · exact ((k.releaseHold _ _).setSweeper _).requestSweeperSlot

theorem examineBucket (k : s.Worked ⟨some b, f⟩ t) (now : LineTime) : s.Worked ⟨some b, f⟩ (t.examineBucket b now) := by
  have all := k.examineWays now (ws := List.range Config.ways) fun w hw => List.mem_range.1 hw
  unfold State.examineBucket
  split
  · next hu =>
    rw [hu] at all
    exact all.blocked _
  · next hu =>
    rw [hu] at all
    exact all.fullyExamined _

theorem beginBurst (k : s.Worked sc t) : s.Worked sc t.beginBurst := (k.setSweeper _).requestHold _ _

/-! ### The trigger and the end of a start pass (R122, R132, R149, R154) -/

theorem setBanks (k : s.Worked sc t) {x y : Bank} (hx : t.store.bankA.Kept x) (hy : t.store.bankB.Kept y) :
    s.Worked sc { t with store := { t.store with bankA := x, bankB := y } } :=
  { k with
    bank := fun c => by
      cases c with
      | A => exact (k.bank .A).trans hx
      | B => exact (k.bank .B).trans hy }

theorem testSchedule (k : s.Worked sc t) (now : LineTime) : s.Worked sc (t.testSchedule now) := by
  have kept : ∀ x : Bank, x.Kept (x.testSchedule now) := by
    intro x
    unfold Bank.testSchedule
    split
    · split_ifs with due
      · exact ⟨rfl, rfl, .inr (.inr ⟨due.1, rfl⟩)⟩
      · exact .refl x
    · exact .refl x
  unfold State.testSchedule
  split_ifs
  · exact k.setBanks (kept _) (kept _)
  · exact k

theorem wakeMatcher (k : s.Worked sc t) : s.Worked sc t.wakeMatcher := by
  unfold State.wakeMatcher
  split_ifs
  · exact k.setMatcher _
  · exact k

theorem timeTrigger (k : s.Worked sc t) (now : LineTime) : s.Worked sc (t.timeTrigger now) :=
  (k.testSchedule now).wakeMatcher

theorem endStartPass (k : s.Worked sc t) : s.Worked sc t.endStartPass := by
  have kept : ∀ x : Bank, x.Kept x.settle := by
    intro x
    unfold Bank.settle
    split_ifs with gone
    · exact ⟨rfl, rfl, .inr (.inl ⟨gone.1, rfl⟩)⟩
    · exact .refl x
  exact ((((k.setSweeper { state := .idle }).setBanks (kept _) (kept _)).returnSweeperSlot).testSchedule _).setMatcher _

/-! ### The start passes (R122 to R125) -/

theorem nextPassBucket (k : s.Worked sc t) (c : Nat) : s.Worked sc (t.nextPassBucket c) := by
  unfold State.nextPassBucket
  dsimp only
  split_ifs
  · exact ((k.releaseHold _ _).setSweeper _).requestHold _ _
  · exact (k.releaseHold _ _).endStartPass

theorem setDram (k : s.Worked sc t) (n : Nat) : s.Worked sc { t with dramWritten := n } := { k with }

theorem emptyBucket (k : s.Worked ⟨some b, f⟩ t) : s.Worked ⟨some b, f⟩ (t.emptyBucket b) :=
  { k with
    table := ⟨fun n hn => by
        have get := sparseGet_filter t.table (fun m => !(Config.ways * b ≤ m && m < Config.ways * (b + 1))) n
        refine (get.trans (if_pos ?_)).trans (k.table.1 n hn)
        simp only [Config.ways, Bool.not_eq_true', Bool.and_eq_false_iff]
        grind,
      fun rising => sparseRising_filter _ _ (k.table.2 rising)⟩ }

/-- Several ways of the bucket written one after another. -/
theorem putWays (g : Nat → Option TokenRecord) : ∀ {ws : List Nat} {t : State}, s.Worked ⟨some b, f⟩ t → (∀ w ∈ ws, w < 8) →
    s.Worked ⟨some b, f⟩ (ws.foldl (fun u w => u.putWay b w (g w)) t)
  | [], _, k, _ => k
  | w :: _, t, k, h => putWays g (t := t.putWay b w (g w)) (k.putWay (h w (by simp)) _) fun v hv => h v (by simp [hv])

theorem fillUndefined (k : s.Worked ⟨some b, f⟩ t) : s.Worked ⟨some b, f⟩ (t.fillUndefined b) := by
  unfold State.fillUndefined
  split_ifs
  · exact k
  · obtain ⟨u, hu⟩ : ∃ u, u = (List.range Config.ways).foldl
        (fun u w => u.putWay b w (Config.undefinedWay t.freeCount (wayKey b w))) t := ⟨_, rfl⟩
    have filled : s.Worked ⟨some b, f⟩ u := hu ▸ k.putWays _ fun w hw => List.mem_range.1 hw
    exact hu ▸ { filled with }

theorem countParts (k : s.Worked sc t) (r : TokenRecord) : s.Worked sc (t.countParts r) := by
  unfold State.countParts
  dsimp only
  cases r.openPart with
  | none =>
    cases r.recent with
    | none => exact k
    | some p => exact k.makeRef _
  | some o =>
    cases r.recent with
    | none => exact k.makeRef _
    | some p => exact (k.makeRef _).makeRef _

theorem passWay (k : s.Worked ⟨some b, f⟩ t) (hw : w < 8) : s.Worked ⟨some b, f⟩ (t.passWay b w).1 := by
  unfold State.passWay
  split
  · split
    · split_ifs
      · exact (((k.putWay hw _).submitSweeper _).makeRef _).countParts _
      · exact k
    · exact k.countParts _
  · exact k

theorem passWays : ∀ {ws : List Nat} {t : State}, s.Worked ⟨some b, f⟩ t → (∀ w ∈ ws, w < 8) →
    s.Worked ⟨some b, f⟩ (t.passWays b ws).1
  | [], _, k, _ => k
  | w :: ws, t, k, hws => by
    have one := k.passWay (hws w (by simp))
    unfold State.passWays
    split
    · next u hu =>
      rw [hu] at one
      exact one
    · next u hu =>
      rw [hu] at one
      exact passWays one fun v hv => hws v (by simp [hv])

theorem restartPassBucket (k : s.Worked ⟨some b, f⟩ t) : s.Worked ⟨some b, f⟩ (t.restartPassBucket b) := by
  have all := k.fillUndefined.passWays (ws := waysFrom (t.fillUndefined b).sweeper.passWay)
    fun w hw => List.mem_range.1 (List.mem_of_mem_filter hw)
  unfold State.restartPassBucket
  dsimp only
  split
  · next hu =>
    rw [hu] at all
    exact ((all.releaseHold _ _).setSweeper _).requestSweeperSlot
  · next hu =>
    rw [hu] at all
    exact all.nextPassBucket _

end State.Worked

end Sys2Proof.Machine
end


section
/-!
The outcomes of a command sorted: most are work of a block, in the bucket its hold names; the rest are the resets, the
clock's events, the frames that join or leave a queue, the ends of a clear and of a check, and the requests.
-/
namespace Sys2Proof.Machine

open Sys2Proof

namespace State.Worked

variable {sc : Scope} {s t : State}

theorem setFauBlock (w : s.Worked sc t) (ofFau : sc.ofFau = true) {f : Fau} (channels : f.channels = t.fau.channels) :
    s.Worked sc { t with fau := f } :=
  { w with
    channels := channels.trans w.channels
    fau := fun no => by simp [ofFau] at no }

/-! ### The ports beside their queues (R157, R158, R163 to R166) -/

theorem setStation (w : s.Worked sc t) {p : StationPort} (kept : PortsKept t.station p t.office t.office) :
    s.Worked sc { t with station := p } :=
  { w with queues := w.queues.trans (u := { t with station := p }) kept }

theorem setOffice (w : s.Worked sc t) {p : OfficePort} (kept : PortsKept t.station t.station t.office p)
    (settlements : sc.ofFau = false → p.settlements = t.office.settlements) : s.Worked sc { t with office := p } :=
  { w with
    queues := w.queues.trans (u := { t with office := p }) kept
    fau := fun no => ⟨(w.fau no).1, (settlements no).trans (w.fau no).2⟩ }

theorem setAwait (w : s.Worked sc t) (port : Port) (v : Bool) : s.Worked sc (t.setAwait port v) := by
  cases port with
  | station => exact w.setStation ⟨⟨rfl, rfl⟩, ⟨rfl, rfl⟩, ⟨rfl, rfl⟩, ⟨rfl, rfl⟩, ⟨rfl, rfl⟩⟩
  | office => exact w.setOffice ⟨⟨rfl, rfl⟩, ⟨rfl, rfl⟩, ⟨rfl, rfl⟩, ⟨rfl, rfl⟩, ⟨rfl, rfl⟩⟩ fun _ => rfl

theorem setFarEndPause (w : s.Worked sc t) (port : Port) (v : Bool) : s.Worked sc (t.setFarEndPause port v) := by
  cases port with
  | station => exact w.setStation ⟨⟨rfl, rfl⟩, ⟨rfl, rfl⟩, ⟨rfl, rfl⟩, ⟨rfl, rfl⟩, ⟨rfl, rfl⟩⟩
  | office => exact w.setOffice ⟨⟨rfl, rfl⟩, ⟨rfl, rfl⟩, ⟨rfl, rfl⟩, ⟨rfl, rfl⟩, ⟨rfl, rfl⟩⟩ fun _ => rfl

theorem discard (w : s.Worked sc t) : s.Worked sc t.discard := w.count _

theorem failCheck (w : s.Worked sc t) (port : Port) (kind source : Octet) : s.Worked sc (t.failCheck port kind source) :=
  w.discard.capture _ _ _ _

end State.Worked

/-- Choosing a frame leaves every queue as it is: a pass-through frame leaves its queue at its end (R162). -/
theorem StationPort.begin_kept (p : StationPort) (o : OfficePort) (node : Octet) : PortsKept p (p.begin node) o o := by
  have verdict : ∀ i, PortsKept p (p.beginVerdict node i) o o := fun i =>
    ⟨⟨rfl, rfl⟩, ⟨rfl, rfl⟩, ⟨List.length_set, rfl⟩, ⟨rfl, rfl⟩, ⟨rfl, rfl⟩⟩
  have pass : ∀ f, PortsKept p (p.beginPass f) o o := fun f =>
    ⟨⟨rfl, rfl⟩, ⟨rfl, rfl⟩, ⟨rfl, rfl⟩, ⟨rfl, rfl⟩, ⟨rfl, rfl⟩⟩
  have same : PortsKept p p o o := ⟨⟨rfl, rfl⟩, ⟨rfl, rfl⟩, ⟨rfl, rfl⟩, ⟨rfl, rfl⟩, ⟨rfl, rfl⟩⟩
  unfold StationPort.begin
  split
  · exact same
  · split
    · exact same
    · exact verdict _
    · exact pass _
    · split
      · exact verdict _
      · exact pass _

theorem OfficePort.begin_kept (p : OfficePort) (q : StationPort) (node : Octet) :
    PortsKept q q p (p.begin node) ∧ (p.begin node).settlements = p.settlements := by
  have reply : ∀ i, PortsKept q q p (p.beginReply node i) := fun i =>
    ⟨⟨rfl, rfl⟩, ⟨rfl, rfl⟩, ⟨rfl, List.length_set⟩, ⟨rfl, rfl⟩, ⟨rfl, rfl⟩⟩
  have settlement : ∀ x, PortsKept q q p (p.beginSettlement node x) := fun x =>
    ⟨⟨rfl, rfl⟩, ⟨rfl, rfl⟩, ⟨rfl, rfl⟩, ⟨rfl, rfl⟩, ⟨rfl, rfl⟩⟩
  have pass : ∀ f, PortsKept q q p (p.beginPass f) := fun f =>
    ⟨⟨rfl, rfl⟩, ⟨rfl, rfl⟩, ⟨rfl, rfl⟩, ⟨rfl, rfl⟩, ⟨rfl, rfl⟩⟩
  have same : PortsKept q q p p := ⟨⟨rfl, rfl⟩, ⟨rfl, rfl⟩, ⟨rfl, rfl⟩, ⟨rfl, rfl⟩, ⟨rfl, rfl⟩⟩
  unfold OfficePort.begin
  split
  · exact ⟨same, rfl⟩
  · split
    · exact ⟨reply _, rfl⟩
    · exact ⟨same, rfl⟩
    · exact ⟨settlement _, rfl⟩
    · exact ⟨pass _, rfl⟩
    · split
      · exact ⟨settlement _, rfl⟩
      · exact ⟨pass _, rfl⟩

theorem State.Worked.beginFrame {sc : Scope} {s t : State} (w : s.Worked sc t) (port : Port) :
    s.Worked sc (t.beginFrame port) := by
  cases port with
  | station => exact w.setStation (StationPort.begin_kept _ _ _)
  | office =>
    obtain ⟨kept, settlements⟩ := OfficePort.begin_kept t.office t.station t.node
    exact w.setOffice kept fun _ => settlements

/-! ### The scope of each command -/

/-- The bucket that a block holds. -/
def Hold.bucket? : Hold → Option Nat
  | .held b _ => some b
  | _ => .none

/-- The scope of a command: the bucket its block holds, where the command is the work of a hold, and whether the block is
the FAU. -/
def commandScope (c : Instr) (s : State) : Scope :=
  match c with
  | .tapHoldGranted => { bucket := s.holds.matcher.bucket? }
  | .writeBack => { bucket := s.holds.fau.bucket?, ofFau := true }
  | .sweepHoldGranted | .powerUpStartPassBucket | .restartStartPassBucket => { bucket := s.holds.sweeper.bucket? }
  | .jobTakenIntoWork | .computationComplete | .waitSettlementEnd => { ofFau := true }
  | _ => {}

/-- The outcomes of a command, with the work of a block as one of them. -/
inductive Effects (s : State) : Instr → State → Prop
  | worked {c : Instr} {t : State} (work : s.Worked (commandScope c s) t) : Effects s c t
  | powerUp (dram : DramStrap) (node : Octet) : Effects s (.powerUp dram node) (s.powerUp dram node)
  | reset : Effects s .resetLineInput s.restart
  | secondBoundary : Effects s .secondBoundary s.secondBoundary
  | millisecondTick : Effects s .millisecondTick s.millisecondTick
  | routed (port : Port) (f : Frame) : Effects s (.frameReceived port f) ((s.setAwait port false).routeFrame port f)
  | stationFrameEnd : Effects s (.frameTransmissionEnd .station) s.endStationFrame
  | officeFrameEnd : Effects s (.frameTransmissionEnd .office) s.endOfficeFrame
  | tapFrameTaken {f : Frame} {rest : List Frame} {slot : Nat} (queued : s.station.intake = f :: rest) :
      Effects s .tapFrameTaken ((s.claimSlot f slot).startFrame f slot)
  | clearCompleted {c : Clear} (clear : s.store.clear = some c) : Effects s .clearCompletion (s.completeClear c)
  | checkEnded {b : BankId} (checking : s.checkingBank = some b) : Effects s .activationCheckEnd (s.endCheck b)
  | request {c : Instr} {handle : State → Request → State} {entry : Nat} {f : Frame} {q : Request}
      (row : RequestRow c handle) (next : s.nextRequest = some (entry, f)) :
      Effects s c (handle (s.reserve entry f) q)

theorem State.Worked.readRecord {sc : Scope} {s t : State} (w : s.Worked sc t) (k : Token) (i : Nat) :
    s.Worked sc (t.readRecord k i) := by
  unfold State.readRecord
  split
  · exact w.fillReply _ _ _
  · exact w.fillReply _ _ _

theorem Moves.effects {s t : State} {c : Instr} (m : Moves s c t) : Effects s c t := by
  have same : ∀ sc, s.Worked sc s := fun sc => .refl sc s
  cases m with
  | powerUp dram node => exact .powerUp dram node
  | reset => exact .reset
  | secondBoundary => exact .secondBoundary
  | millisecondTick => exact .millisecondTick
  | routed port f => exact .routed port f
  | stationFrameEnd => exact .stationFrameEnd
  | officeFrameEnd => exact .officeFrameEnd
  | tapFrameTaken _ queued => exact .tapFrameTaken queued
  | clearCompleted clear => exact .clearCompleted clear
  | checkEnded checking => exact .checkEnded checking
  | request row next => exact .request row next
  | stay => exact .worked (same _)
  | pauseRunsOut => exact .worked (same _).beginBurst
  | notWellFormed port f kind source => exact .worked (((same _).setAwait _ _).failCheck _ _ _)
  | overlength port kind source => exact .worked (((same _).setAwait _ _).failCheck _ _ _)
  | pauseAsserted port => exact .worked ((same _).setFarEndPause _ _)
  | pauseReleased port => exact .worked (((same _).setFarEndPause _ _).beginFrame _)
  | frameBegin port => exact .worked ((same _).beginFrame _)
  | rejudged => exact .worked ((same _).judgeRecord _ _)
  | recordBegun => exact .worked (((same _).setMatcher _).testRecord _)
  | slotTaken _ _ row => exact .worked ((same _).takeSlot _)
  | tapHoldGranted work held =>
    refine .worked ?_
    rw [commandScope, held]
    exact (State.HoldEnds.handleHold _ _ _ _).worked
  | assistTaken => exact .worked ((same _).takeAssist _ _ _ _)
  | jobTaken =>
    refine .worked (State.Worked.arbitrate ?_)
    exact (same _).setFauBlock rfl rfl
  | computed => exact .worked ((same _).setFauBlock rfl rfl)
  | displacedSettled => exact .worked ((((same _).writeBackUntracked rfl _ _ _).releaseRef _).setFau rfl _)
  | holdAsked => exact .worked (((same _).setFau rfl _).requestHold _ _)
  | writeBack state held =>
    refine .worked ?_
    rw [commandScope, held]
    exact (same _).writeBack _ _ _
  | examined held =>
    refine .worked ?_
    rw [commandScope, held]
    exact (same _).examineBucket _
  | sweeperSlotTaken =>
    refine .worked (State.Worked.requestHold ?_ _ _)
    exact { same (commandScope .sweeperSlotGranted s) with }
  | powerUpPass held =>
    refine .worked ?_
    rw [commandScope, held]
    exact ((same _).emptyBucket.setDram _).nextPassBucket _
  | restartPass held =>
    refine .worked ?_
    rw [commandScope, held]
    exact (same _).restartPassBucket
  | passSlotTaken => exact .worked (((same _).setSlots _).requestHold _ _)
  | tokenRead =>
    refine .worked (State.Worked.grantNext ?_ _)
    exact { (same (commandScope .tokenRecordRead s)).readRecord _ _ with discarded := rfl }

end Sys2Proof.Machine
end


section
/-!
What a request that has been taken can do, said once: it is answered with the state as it is, or makes one of the changes
listed and is answered, or stays in work.
-/
namespace Sys2Proof.Machine

open Sys2Proof

/-- The outcomes of a request that has been taken. -/
inductive RequestDone (s : State) (q : Request) : State → Prop
  | answered (x : Status) (d : List Octet) : RequestDone s q (s.answer q x d)
  | captured (k : FaultKind) (b : BankId) (o : Nat) (x : Status) :
      RequestDone s q ((s.captureWrite q k b o).refuse q x)
  | timeSet : RequestDone s q (s.setTime q)
  | trimSet : RequestDone s q (s.setTrim q)
  | clearTaken {b : BankId} {segment : Nat} (inBank : segment ≤ 15) (staging : (s.bank b).state = .staging) :
      RequestDone s q { s with store := { s.store with clear := some ⟨b, segment, 0, q.entry⟩ } }
  | unitPut {b : BankId} {o : Nat} (ws : List Word) (d : List Octet) (writable : s.writeRefusal b o = none)
      (unit : unitOffset o = true ∨ (o = s.store.pointerOffset ∧ o ≠ 16384)) :
      RequestDone s q ((s.putUnit b o ws).answer q .done d)
  | pointerSet {b : BankId} {o : Nat} (d : List Octet) (unit : o % 4 = 0 ∧ o ≤ 16384) :
      RequestDone s q ({ s with store := { s.store with pointerBank := b, pointerOffset := o } }.answer q .done d)
  | derivedRead (b : BankId) (d : List Octet) : RequestDone s q ((s.advanceCheck b).answer q .done d)
  | scheduled {b : BankId} (t : LineTime) (d : List Octet) (taken : s.scheduleRefusal b = none) :
      RequestDone s q ((s.schedule b t).answer q .done d)
  | unscheduled {b : BankId} (d : List Octet) (found : s.scheduledBank = some b) :
      RequestDone s q ((s.setBank b { s.bank b with state := .staging, activation := none }).answer q .done d)
  | banksRead (d : List Octet) : RequestDone s q (s.advanceClear.answer q .done d)
  | sweepConfigured (mode : SweepMode) (pause : BitVec 16) {bucket : Nat} (d : List Octet) (low : bucket < s.bucketCount) :
      RequestDone s q ({ s with sweeper :=
        { s.sweeper with mode := mode, pause := clampPause pause, pointer := bucket } }.answer q .done d)
  | sweepStarted : RequestDone s q
      (({ s with sweeper := { s.sweeper with round := 0, passComplete := false } }.beginBurst).answer q .done [])
  | sweepStopping (x : SweepState) : RequestDone s q ((s.setSweep x).answer q .done [])
  | sweepStopped (x : SweepState) : RequestDone s q (((s.setSweep x).returnSweeperSlot).answer q .done [])
  | inWork (w : RequestInWork) : RequestDone s q { s with responder := { s.responder with inWork := some w } }
  | channelsSet (o : Octet) (d : List Octet) :
      RequestDone s q ({ s with fau := { s.fau with channels := channelMask o } }.answer q .done d)
  | faultCleared : RequestDone s q (s.clearFaultRequest q)
  | restartAsked : RequestDone s q (s.restartRequest q)

namespace RequestDone

variable {s : State} {q : Request}

theorem refused (x : Status) : RequestDone s q (s.refuse q x) := .answered x []

theorem writeUnitAt {b : BankId} {o : Nat} (ws : List Word)
    (unit : unitOffset o = true ∨ (o = s.store.pointerOffset ∧ o ≠ 16384)) :
    RequestDone s q (s.writeUnitAt q b o ws) := by
  unfold State.writeUnitAt
  split
  · exact .captured _ _ _ _
  · exact refused _
  · next writable => exact .unitPut ws _ writable unit

theorem clearSegment : RequestDone s q (s.clearSegmentRequest q) := by
  unfold State.clearSegmentRequest
  dsimp only
  split
  · exact refused _
  · split
    · exact refused _
    · next inBank =>
      split
      · exact refused _
      · split
        · exact .captured _ _ _ _
        · next staging => exact .clearTaken (Nat.not_lt.1 inBank) (not_not.1 staging)

theorem writeUnit : RequestDone s q (s.writeUnitRequest q) := by
  unfold State.writeUnitRequest
  dsimp only
  split
  · exact refused _
  · split
    · next unit => exact writeUnitAt _ (.inl unit)
    · exact refused _

theorem writeNext : RequestDone s q (s.writeNextRequest q) := by
  unfold State.writeNextRequest
  split
  · exact refused _
  · next inside => exact writeUnitAt _ (.inr ⟨rfl, inside⟩)

theorem setPointer : RequestDone s q (s.setPointerRequest q) := by
  unfold State.setPointerRequest
  dsimp only
  split
  · exact refused _
  · split
    · next unit => exact .pointerSet _ unit
    · exact refused _

theorem readUnit : RequestDone s q (s.readUnitRequest q) := by
  unfold State.readUnitRequest
  dsimp only
  split
  · exact refused _
  · split
    · split
      · exact refused _
      · split
        · exact .derivedRead _ _
        · exact .answered _ _
    · exact refused _

theorem schedule : RequestDone s q (s.scheduleRequest q) := by
  unfold State.scheduleRequest
  dsimp only
  split
  · exact refused _
  · split
    · exact refused _
    · next taken => exact .scheduled _ _ taken

theorem unschedule : RequestDone s q (s.unscheduleRequest q) := by
  unfold State.unscheduleRequest
  split
  · next found => exact .unscheduled _ found
  · split
    · exact refused _
    · exact refused _

theorem readBanks : RequestDone s q (s.readBanksRequest q) := by
  unfold State.readBanksRequest
  dsimp only
  split
  · exact .banksRead _
  · exact .answered _ _

theorem sweepConfig : RequestDone s q (s.sweepConfigRequest q) := by
  unfold State.sweepConfigRequest
  dsimp only
  split
  · exact refused _
  · split
    · exact refused _
    · split
      · exact refused _
      · next low => exact .sweepConfigured _ _ _ (Nat.not_le.1 low)

theorem sweepStart : RequestDone s q (s.sweepStartRequest q) := by
  unfold State.sweepStartRequest
  split
  · exact refused _
  · exact .sweepStarted

theorem sweepStop : RequestDone s q (s.sweepStopRequest q) := by
  unfold State.sweepStopRequest
  split
  · exact .answered _ _
  · exact .sweepStopping _
  · exact .answered _ _
  · exact .sweepStopping _
  · exact .sweepStopped _
  · exact refused _

theorem readToken : RequestDone s q (s.readTokenRequest q) := by
  unfold State.readTokenRequest
  dsimp only
  split
  · exact refused _
  · split
    · exact refused _
    · split
      · exact .inWork _
      · unfold State.readRecord
        split
        · exact .answered _ _
        · exact .answered _ _

end RequestDone

/-- Every request comes to one of the outcomes. -/
theorem RequestRow.done {c : Instr} {handle : State → Request → State} (row : RequestRow c handle) (s : State)
    (q : Request) : RequestDone s q (handle s q) := by
  cases row with
  | status => exact .answered _ _
  | setTime => exact .timeSet
  | setTrim => exact .trimSet
  | clearSegment => exact .clearSegment
  | writeUnit => exact .writeUnit
  | writeNext => exact .writeNext
  | setPointer => exact .setPointer
  | readUnit => exact .readUnit
  | schedule => exact .schedule
  | unschedule => exact .unschedule
  | readBanks => exact .readBanks
  | sweepConfig => exact .sweepConfig
  | sweepStart => exact .sweepStart
  | sweepStop => exact .sweepStop
  | readToken => exact .readToken
  | assistExit => exact .inWork _
  | setChannels => exact .channelsSet _ _
  | readFault => exact .answered _ _
  | clearFault => exact .faultCleared
  | restart => exact .restartAsked
  | unknownRequest => exact .answered _ _

/-- Requests leave the queues as the taking of the request left them, and the FAU's settlements too. -/
theorem RequestDone.queuesKept {s t : State} {q : Request} (done : RequestDone s q t) :
    s.QueuesKept t ∧ t.office.settlements = s.office.settlements ∧ t.fau.state = s.fau.state := by
  have answer : ∀ (u : State) (x : Status) (d : List Octet), u.station = s.station → u.office = s.office →
      u.fau.state = s.fau.state → s.QueuesKept (u.answer q x d) ∧
        (u.answer q x d).office.settlements = s.office.settlements ∧ (u.answer q x d).fau.state = s.fau.state := by
    intro u x d hs ho hf
    have filled := PortsKept.fillReply u q.entry x d
    rw [State.QueuesKept, hs, ho] at filled
    exact ⟨filled, by rw [← ho]; rfl, hf⟩
  cases done with
  | timeSet => exact answer _ _ _ (by simp) (by simp) (by simp)
  | derivedRead => exact answer _ _ _ (by simp) (by simp) (by simp)
  | scheduled => exact answer _ _ _ (by simp [State.schedule]) (by simp [State.schedule]) (by simp [State.schedule])
  | banksRead => exact answer _ _ _ (by simp) (by simp) (by simp)
  | sweepStarted =>
    exact answer _ _ _ (by simp [State.beginBurst]) (by simp [State.beginBurst]) (by simp [State.beginBurst])
  | sweepStopped => exact answer _ _ _ (by simp [State.setSweep]) (by simp [State.setSweep]) (by simp [State.setSweep])
  | clearTaken => exact ⟨.refl s, rfl, rfl⟩
  | inWork => exact ⟨.refl s, rfl, rfl⟩
  | _ => exact answer _ _ _ rfl rfl rfl

end Sys2Proof.Machine
end


section
/-!
The queues of the ports (R160 to R166): what a command can do to them, said once, and from it the invariants of their
pause conditions (R161) and of their capacities.
-/
namespace Sys2Proof.Machine

open Sys2Proof

/-! ### What a command does to the queues -/

/-- The queues after a reset: empty, with their places free and no pause condition (R161, R164, R166, R184). -/
structure State.QueuesEmptied (t : State) : Prop where
  intake : t.station.intake = [] ∧ t.office.intake = []
  passing : t.station.passDown = [] ∧ t.office.passUp = []
  places : t.station.verdicts.length = 32 ∧ t.office.replies.length = 8
  intakeCondition : t.station.intakeCondition = false ∧ t.office.intakeCondition = false
  forwardCondition : t.station.forwardCondition = false ∧ t.office.forwardCondition = false

/-- One frame joins or leaves one queue, or none does, or a reset empties them all. -/
inductive State.QueueMoves (s t : State) : Prop
  | kept (same : s.QueuesKept t)
  | emptied (reset : t.QueuesEmptied)
  | stationJoined (f : Frame) (room : s.station.intake.length < 32)
      (same : State.QueuesKept { s with station := { s.station with
        intake := s.station.intake ++ [f]
        intakeCondition := conditionRises 28 (s.station.intake.length + 1) s.station.intakeCondition } } t)
  | officeJoined (f : Frame) (room : s.office.intake.length < 16)
      (same : State.QueuesKept { s with office := { s.office with
        intake := s.office.intake ++ [f]
        intakeCondition := conditionRises 14 (s.office.intake.length + 1) s.office.intakeCondition } } t)
  | passUpJoined (f : Frame) (room : s.office.passUp.length < 16)
      (same : State.QueuesKept { s with
        office := { s.office with passUp := s.office.passUp ++ [f] }
        station := { s.station with
          forwardCondition := conditionRises 12 (s.office.passUp.length + 1) s.station.forwardCondition } } t)
  | passDownJoined (f : Frame) (room : s.station.passDown.length < 16)
      (same : State.QueuesKept { s with
        station := { s.station with passDown := s.station.passDown ++ [f] }
        office := { s.office with
          forwardCondition := conditionRises 12 (s.station.passDown.length + 1) s.office.forwardCondition } } t)
  | stationDropped (same : State.QueuesKept { s with station := s.station.dropIntake } t)
  | officeDropped (same : State.QueuesKept { s with office := s.office.dropIntake } t)
  | passDownLeft (same : s.endPassDown.QueuesKept t)
  | passUpLeft (same : s.endPassUp.QueuesKept t)

theorem State.queuesEmptied_resetBlocks (s : State) (kind : PassKind) (n : Nat) :
    (s.resetBlocks kind n).QueuesEmptied := ⟨⟨rfl, rfl⟩, ⟨rfl, rfl⟩, ⟨rfl, rfl⟩, ⟨rfl, rfl⟩, ⟨rfl, rfl⟩⟩

theorem PortsKept.beginFrame (t : State) (port : Port) : t.QueuesKept (t.beginFrame port) :=
  ((State.Worked.refl {} t).beginFrame port).queues

/-- A well-formed frame joins one queue, or none (R159, R160, R162). -/
theorem State.queueMoves_routeFrame (s : State) (port : Port) (f : Frame) :
    s.QueueMoves ((s.setAwait port false).routeFrame port f) := by
  have same : ∀ p v, s.QueuesKept (s.setAwait p v) := fun p v => ((State.Worked.refl {} s).setAwait p v).queues
  have lost : ∀ p, s.QueueMoves (s.setAwait p false).discard := fun p => .kept (same p false)
  cases port with
  | station =>
    unfold State.routeFrame
    dsimp only
    split
    · unfold State.joinPassUp
      split
      · next room => exact .passUpJoined f room ⟨⟨rfl, rfl⟩, ⟨rfl, rfl⟩, ⟨rfl, rfl⟩, ⟨rfl, rfl⟩, ⟨rfl, rfl⟩⟩
      · exact lost .station
    · split
      · unfold State.joinStationIntake
        split
        · next room => exact .stationJoined f room ⟨⟨rfl, rfl⟩, ⟨rfl, rfl⟩, ⟨rfl, rfl⟩, ⟨rfl, rfl⟩, ⟨rfl, rfl⟩⟩
        · exact lost .station
      · exact lost .station
  | office =>
    unfold State.routeFrame
    dsimp only
    split
    · unfold State.joinPassDown
      split
      · next room => exact .passDownJoined f room ⟨⟨rfl, rfl⟩, ⟨rfl, rfl⟩, ⟨rfl, rfl⟩, ⟨rfl, rfl⟩, ⟨rfl, rfl⟩⟩
      · exact lost .office
    · split
      · unfold State.joinOfficeIntake
        split
        · next room => exact .officeJoined f room ⟨⟨rfl, rfl⟩, ⟨rfl, rfl⟩, ⟨rfl, rfl⟩, ⟨rfl, rfl⟩, ⟨rfl, rfl⟩⟩
        · exact lost .office
      · exact lost .office

theorem State.queueMoves_endStationFrame (s : State) : s.QueueMoves s.endStationFrame := by
  unfold State.endStationFrame
  split
  · next i o _ =>
    have freed : s.QueuesKept (s.endVerdict i) := ⟨⟨rfl, rfl⟩, ⟨rfl, rfl⟩, ⟨List.length_set, rfl⟩, ⟨rfl, rfl⟩, ⟨rfl, rfl⟩⟩
    exact .kept (freed.trans (.beginFrame _ .station))
  · exact .passDownLeft (.beginFrame _ .station)
  · exact .kept (.refl s)

theorem State.queueMoves_endOfficeFrame (s : State) : s.QueueMoves s.endOfficeFrame := by
  unfold State.endOfficeFrame
  split
  · next i o _ =>
    have freed : s.QueuesKept (s.endReply i) := ⟨⟨rfl, rfl⟩, ⟨rfl, rfl⟩, ⟨rfl, List.length_set⟩, ⟨rfl, rfl⟩, ⟨rfl, rfl⟩⟩
    split
    · exact .emptied (State.queuesEmptied_resetBlocks _ _ _)
    · exact .kept (freed.trans (.beginFrame _ .office))
  · have freed : s.QueuesKept s.endSettlement := ⟨⟨rfl, rfl⟩, ⟨rfl, rfl⟩, ⟨rfl, rfl⟩, ⟨rfl, rfl⟩, ⟨rfl, rfl⟩⟩
    exact .kept (freed.trans (.beginFrame _ .office))
  · exact .passUpLeft (.beginFrame _ .office)
  · exact .kept (.refl s)

theorem State.queueMoves_tapFrameTaken (s : State) (f : Frame) (slot : Nat) :
    s.QueueMoves ((s.claimSlot f slot).startFrame f slot) := by
  have started : ∀ u : State, u.QueuesKept (u.startFrame f slot) := by
    intro u
    unfold State.startFrame
    dsimp only
    split
    · exact .refl u
    · exact .refl u
  obtain ⟨v, hv⟩ : ∃ v, s.claimSlot f slot = { s with station :=
      ({ s.station.dropIntake with verdicts := s.station.verdicts.set slot v } : StationPort).settleSlot slot } :=
    ⟨_, rfl⟩
  have settled := StationPort.settleSlot_frame { s.station.dropIntake with verdicts := s.station.verdicts.set slot v } slot
  obtain ⟨intake, pass, ic, fc, -, -, -, -, length⟩ := settled
  refine .stationDropped (PortsKept.trans (t := s.claimSlot f slot) ?_ (started _))
  rw [hv]
  exact ⟨⟨intake, rfl⟩, ⟨pass, rfl⟩, ⟨length.trans List.length_set, rfl⟩, ⟨ic, rfl⟩, ⟨fc, rfl⟩⟩

/-- What every command does to the queues. -/
theorem Moves.queueMoves {s t : State} {c : Instr} (m : Moves s c t) : s.QueueMoves t := by
  cases m.effects with
  | worked work => exact .kept work.queues
  | powerUp => exact .emptied ⟨⟨rfl, rfl⟩, ⟨rfl, rfl⟩, ⟨rfl, rfl⟩, ⟨rfl, rfl⟩, ⟨rfl, rfl⟩⟩
  | reset => exact .emptied (State.queuesEmptied_resetBlocks _ _ _)
  | secondBoundary => exact .kept (.of_ports (by simp) (by simp))
  | millisecondTick => exact .kept (.of_ports (by simp) (by simp))
  | routed port f => exact s.queueMoves_routeFrame port f
  | stationFrameEnd => exact s.queueMoves_endStationFrame
  | officeFrameEnd => exact s.queueMoves_endOfficeFrame
  | tapFrameTaken => exact s.queueMoves_tapFrameTaken _ _
  | clearCompleted => exact .kept (.trans (.of_ports (by simp) (by simp)) (.fillReply _ _ _ _))
  | @checkEnded b _ =>
    unfold State.endCheck
    cases checkFailure (s.words b) with
    | none =>
      refine .kept (.of_ports ?_ ?_)
      · rw [State.endCheckAs, State.passCheck_eq]
      · rw [State.endCheckAs, State.passCheck_eq]
    | some code => exact .kept (.of_ports (by simp [State.endCheckAs, State.failCheckAt]) (by simp [State.endCheckAs, State.failCheckAt]))
  | @request c _ entry f q row _ =>
    have reserved : State.QueuesKept { s with office := s.office.dropIntake } (s.reserve entry f) :=
      ⟨⟨rfl, rfl⟩, ⟨rfl, rfl⟩, ⟨rfl, List.length_set⟩, ⟨rfl, rfl⟩, ⟨rfl, rfl⟩⟩
    exact .officeDropped (reserved.trans (row.done _ q).queuesKept.1)

/-! ### The pause conditions (R161) -/

theorem conditionSound.rises {rise fall n : Nat} {c : Bool} (h : conditionSound rise fall n c) (low : fall < rise) :
    conditionSound rise fall (n + 1) (conditionRises rise (n + 1) c) := by
  obtain ⟨above, below⟩ := h
  unfold conditionRises
  split
  · exact ⟨fun _ => by omega, nofun⟩
  · exact ⟨fun yes => by have := above yes; omega, fun no => by have := below no; omega⟩

theorem conditionSound.falls {rise fall n : Nat} {c : Bool} (h : conditionSound rise fall n c) (low : fall < rise) :
    conditionSound rise fall (n - 1) (conditionFalls fall (n - 1) c) := by
  obtain ⟨above, below⟩ := h
  unfold conditionFalls
  split
  · exact ⟨nofun, fun _ => by omega⟩
  · exact ⟨fun yes => by have := above yes; omega, fun no => by have := below no; omega⟩

theorem conditionSound.empty {rise fall : Nat} (high : 0 < rise) : conditionSound rise fall 0 false :=
  ⟨nofun, fun _ => high⟩

theorem State.pausesSound_kept {s t : State} (same : s.QueuesKept t) (sound : s.pausesSound) : t.pausesSound := by
  obtain ⟨⟨i1, i2⟩, ⟨p1, p2⟩, -, ⟨c1, c2⟩, ⟨f1, f2⟩⟩ := same
  unfold State.pausesSound
  rw [i1, i2, p1, p2, c1, c2, f1, f2]
  exact sound

theorem State.pausesSound_moves {s t : State} (moves : s.QueueMoves t) (sound : s.pausesSound) : t.pausesSound := by
  have whole := sound
  obtain ⟨station, office, up, down⟩ := sound
  cases moves with
  | kept same => exact State.pausesSound_kept same whole
  | emptied reset =>
    obtain ⟨⟨i1, i2⟩, ⟨p1, p2⟩, -, ⟨c1, c2⟩, ⟨f1, f2⟩⟩ := reset
    unfold State.pausesSound
    rw [i1, i2, p1, p2, c1, c2, f1, f2]
    exact ⟨.empty (by decide), .empty (by decide), .empty (by decide), .empty (by decide)⟩
  | stationJoined f room same =>
    exact State.pausesSound_kept same ⟨by simpa using station.rises (by decide), office, up, down⟩
  | officeJoined f room same =>
    exact State.pausesSound_kept same ⟨station, by simpa using office.rises (by decide), up, down⟩
  | passUpJoined f room same =>
    exact State.pausesSound_kept same ⟨station, office, by simpa using up.rises (by decide), down⟩
  | passDownJoined f room same =>
    exact State.pausesSound_kept same ⟨station, office, up, by simpa using down.rises (by decide)⟩
  | stationDropped same =>
    exact State.pausesSound_kept same
      ⟨by simpa [StationPort.dropIntake] using station.falls (by decide), office, up, down⟩
  | officeDropped same =>
    exact State.pausesSound_kept same
      ⟨station, by simpa [OfficePort.dropIntake] using office.falls (by decide), up, down⟩
  | passDownLeft same =>
    exact State.pausesSound_kept same
      ⟨station, office, up, by simpa [State.endPassDown] using down.falls (by decide)⟩
  | passUpLeft same =>
    exact State.pausesSound_kept same
      ⟨station, office, by simpa [State.endPassUp] using up.falls (by decide), down⟩

/-- Settles O6: a condition rises and falls with the one frame that joins or leaves its queue. -/
theorem pauseConditionsFollowTheirThresholds : Obligations.PauseConditionsFollowTheirThresholds :=
  step_keeps (fun _ _ sound => sound)
    (fun s sound => State.pausesSound_kept (.of_ports (by simp) (by simp)) sound)
    fun _ _ _ sound moves => State.pausesSound_moves moves.queueMoves sound

/-! ### The capacities of the queues and the FAU's settlement entry (R20, R160, R162, R164, R166) -/

/-- The queues but the settlements are within their capacities. -/
def State.queuesWithin (s : State) : Prop :=
  s.station.intake.length ≤ 32 ∧ s.office.intake.length ≤ 16 ∧ s.station.passDown.length ≤ 16 ∧
    s.office.passUp.length ≤ 16 ∧ s.station.verdicts.length = 32 ∧ s.office.replies.length = 8

/-- The settlements, with the entry that the FAU in WAIT_HOLD has spoken for, are within their capacity (R20). -/
def State.settlementsWithin (s : State) : Prop :=
  s.office.settlements.length + s.fau.state.claimsEntry ≤ 64

theorem State.withinCapacity_iff (s : State) : s.withinCapacity ↔ s.queuesWithin ∧ s.settlementsWithin := by
  unfold State.withinCapacity State.queuesWithin State.settlementsWithin
  tauto

theorem State.queuesWithin_kept {s t : State} (same : s.QueuesKept t) (within : s.queuesWithin) : t.queuesWithin := by
  obtain ⟨⟨i1, i2⟩, ⟨p1, p2⟩, ⟨v, r⟩, -, -⟩ := same
  unfold State.queuesWithin
  rw [i1, i2, p1, p2, v, r]
  exact within

theorem State.queuesWithin_moves {s t : State} (moves : s.QueueMoves t) (within : s.queuesWithin) : t.queuesWithin := by
  have whole := within
  obtain ⟨station, office, down, up, verdicts, replies⟩ := within
  cases moves with
  | kept same => exact State.queuesWithin_kept same whole
  | emptied reset =>
    obtain ⟨⟨i1, i2⟩, ⟨p1, p2⟩, ⟨v, r⟩, -, -⟩ := reset
    unfold State.queuesWithin
    rw [i1, i2, p1, p2, v, r]
    decide
  | stationJoined f room same =>
    exact State.queuesWithin_kept same ⟨by simpa using room, office, down, up, verdicts, replies⟩
  | officeJoined f room same =>
    exact State.queuesWithin_kept same ⟨station, by simpa using room, down, up, verdicts, replies⟩
  | passUpJoined f room same =>
    exact State.queuesWithin_kept same ⟨station, office, down, by simpa using room, verdicts, replies⟩
  | passDownJoined f room same =>
    exact State.queuesWithin_kept same ⟨station, office, by simpa using room, up, verdicts, replies⟩
  | stationDropped same =>
    exact State.queuesWithin_kept same
      ⟨by simp [StationPort.dropIntake]; omega, office, down, up, verdicts, replies⟩
  | officeDropped same =>
    exact State.queuesWithin_kept same
      ⟨station, by simp [OfficePort.dropIntake]; omega, down, up, verdicts, replies⟩
  | passDownLeft same =>
    exact State.queuesWithin_kept same
      ⟨station, office, by simp [State.endPassDown]; omega, up, verdicts, replies⟩
  | passUpLeft same =>
    exact State.queuesWithin_kept same
      ⟨station, office, down, by simp [State.endPassUp]; omega, verdicts, replies⟩

@[simp] theorem State.settlements_fillReply (s : State) (i : Nat) (x : Status) (d : List Octet) :
    (s.fillReply i x d).office.settlements = s.office.settlements := rfl

/-- An answer to a job fills a place that waits for it; the settlements stand. -/
@[simp] theorem State.settlements_answerJob (s : State) (job : Job) (x : Settlement) (c : Charge) :
    (s.answerJob job x c).office.settlements = s.office.settlements := by
  unfold State.answerJob
  split <;> simp

/-- The settlement and the answer of a write-back append one settlement. -/
theorem State.settlements_report (s : State) (job : Job) (r : FareResult) (c : Charge) (channels : BitVec 4) :
    (s.report job r c channels).office.settlements = s.office.settlements ++ [s.settlementOf job r c channels] := by
  simp [State.report, State.appendSettlement]

@[simp] theorem State.office_settleParts (s : State) (b w : Nat) (job : Job) (old : TokenRecord) (c : Charge)
    (now : LineTime) : (s.settleParts b w job old c now).office = s.office := by
  unfold State.settleParts
  (repeat' split) <;> simp

/-- The FAU's release leaves it IDLE and the Office Port as it is. -/
@[simp] theorem State.releaseFau_idle (s : State) (b : Nat) (job : Job) (removed : Bool) :
    (s.releaseFau b job removed).fau.state = .idle ∧ (s.releaseFau b job removed).office = s.office := by
  unfold State.releaseFau
  dsimp only
  split <;> simp [State.setFau]

/-- A write-back appends one settlement and leaves the FAU IDLE (R45, R50). -/
theorem State.settlements_writeBack (s : State) (b : Nat) (job : Job) (r : FareResult) (read : Reading) :
    (s.writeBack b job r read).office.settlements.length = s.office.settlements.length + 1 ∧
      (s.writeBack b job r read).fau.state = .idle := by
  unfold State.writeBack
  split <;> simp [State.writeBackTracked, State.writeBackUntracked, State.settlements_report]

/-- No command but the FAU's adds a settlement or puts the FAU into WAIT_HOLD. -/
theorem Effects.settlements_le {s t : State} {c : Instr} (e : Effects s c t) (other : (commandScope c s).ofFau = false) :
    t.office.settlements.length ≤ s.office.settlements.length ∧
      t.fau.state.claimsEntry ≤ s.fau.state.claimsEntry := by
  have same : ∀ {u : State}, u.fau.state = s.fau.state ∧ u.office.settlements = s.office.settlements →
      u.office.settlements.length ≤ s.office.settlements.length ∧
        u.fau.state.claimsEntry ≤ s.fau.state.claimsEntry := by
    rintro u ⟨h1, h2⟩
    rw [h1, h2]
    exact ⟨le_rfl, le_rfl⟩
  have begun : ∀ (u : State) (p : Port), (u.beginFrame p).office.settlements = u.office.settlements ∧
      (u.beginFrame p).fau.state = u.fau.state := fun u p =>
    (((State.Worked.refl {} u).beginFrame p).fau rfl).symm
  cases e with
  | worked work => exact same (work.fau other)
  | powerUp => exact ⟨Nat.zero_le _, Nat.zero_le _⟩
  | reset => exact ⟨Nat.zero_le _, Nat.zero_le _⟩
  | secondBoundary => exact same (by simp)
  | millisecondTick => exact same (by simp)
  | routed port f =>
    refine same ?_
    cases port <;> simp only [State.routeFrame, State.joinPassUp, State.joinStationIntake, State.joinPassDown,
      State.joinOfficeIntake] <;> split_ifs <;> exact ⟨rfl, rfl⟩
  | stationFrameEnd =>
    unfold State.endStationFrame
    split
    · exact same ⟨(begun _ _).2, (begun _ _).1⟩
    · exact same ⟨(begun _ _).2, (begun _ _).1⟩
    · exact same ⟨rfl, rfl⟩
  | officeFrameEnd =>
    unfold State.endOfficeFrame
    split
    · split
      · exact ⟨Nat.zero_le _, Nat.zero_le _⟩
      · exact same ⟨(begun _ _).2, (begun _ _).1⟩
    · rw [(begun _ _).1, (begun _ _).2]
      exact ⟨by simp [State.endSettlement], le_rfl⟩
    · exact same ⟨(begun _ _).2, (begun _ _).1⟩
    · exact same ⟨rfl, rfl⟩
  | tapFrameTaken =>
    simp only [State.startFrame, State.claimSlot]
    split <;> exact same ⟨rfl, rfl⟩
  | @clearCompleted clear _ => exact same ⟨by simp [State.completeClear], by simp [State.completeClear]⟩
  | @checkEnded b _ =>
    unfold State.endCheck
    cases checkFailure (s.words b) with
    | none => exact same (by rw [State.endCheckAs, State.passCheck_eq]; exact ⟨rfl, rfl⟩)
    | some code => exact same (by simp [State.endCheckAs, State.failCheckAt])
  | request row _ =>
    obtain ⟨-, settlements, fau⟩ := (row.done _ _).queuesKept
    exact same ⟨fau, settlements⟩

theorem Moves.settlementsWithin {s t : State} {c : Instr} (m : Moves s c t) (within : s.settlementsWithin) :
    t.settlementsWithin := by
  have other : (commandScope c s).ofFau = false → t.settlementsWithin := fun no => by
    have := m.effects.settlements_le no
    unfold State.settlementsWithin at within ⊢
    omega
  unfold State.settlementsWithin at within other ⊢
  cases m with
  | stay => exact within
  | jobTaken idle =>
    simp [idle, FauState.claimsEntry] at within
    simpa [FauState.claimsEntry] using within
  | computed =>
    have : s.office.settlements.length ≤ 64 := by omega
    simpa [FauState.claimsEntry] using this
  | displacedSettled room =>
    simp [State.setFau, State.writeBackUntracked, State.settlements_report, FauState.claimsEntry]
    omega
  | holdAsked state room =>
    simp [State.setFau, FauState.claimsEntry]
    omega
  | @writeBack job r b read state held =>
    obtain ⟨one, idle⟩ := s.settlements_writeBack b job r read
    rw [state, FauState.claimsEntry] at within
    rw [one, idle]
    exact within
  | slotTaken _ _ row => rcases row with rfl | rfl <;> exact other rfl
  | request row => cases row <;> exact other rfl
  | _ => exact other rfl

/-- Settles O5: each queue grows by one frame where it has room, and the FAU asks for its bucket with an entry free. -/
theorem queuesStayWithinCapacity : Obligations.QueuesStayWithinCapacity := by
  refine step_keeps (fun _ _ within => within) (fun s within => ?_) fun s c t within moves => ?_
  · unfold State.withinCapacity at within ⊢
    simpa using within
  · rw [State.withinCapacity_iff] at within ⊢
    exact ⟨State.queuesWithin_moves moves.queueMoves within.1, moves.settlementsWithin within.2⟩

end Sys2Proof.Machine
end


section
/-!
What each command leaves of the rest of the state: the waiting commands, the records outside a held bucket, and the words
of the banks, which change only by a clear, by a check and by unit writes.
-/
namespace Sys2Proof.Machine

open Sys2Proof

/-! ### Events of the ports (R157 to R166) -/

/-- The ports and the Responder's counters and record alone have changed. -/
structure State.PortsOnly (s t : State) : Prop where
  only : t = { s with station := t.station, office := t.office, responder := t.responder }
  discarded : t.responder.discardedSettlements = s.responder.discardedSettlements
  inWork : t.responder.inWork = s.responder.inWork

theorem State.portsOnly_routeFrame (s : State) (port : Port) (f : Frame) :
    s.PortsOnly ((s.setAwait port false).routeFrame port f) := by
  cases port <;> simp only [State.routeFrame, State.joinPassUp, State.joinStationIntake, State.joinPassDown,
    State.joinOfficeIntake] <;> split_ifs <;> exact ⟨rfl, rfl, rfl⟩

theorem State.portsOnly_beginFrame {s u : State} (h : s.PortsOnly u) (port : Port) : s.PortsOnly (u.beginFrame port) := by
  obtain ⟨only, discarded, inWork⟩ := h
  cases port with
  | station => exact ⟨by rw [only]; rfl, discarded, inWork⟩
  | office => exact ⟨by rw [only]; rfl, discarded, inWork⟩

theorem State.portsOnly_endStationFrame (s : State) : s.PortsOnly s.endStationFrame := by
  unfold State.endStationFrame
  split
  · exact State.portsOnly_beginFrame (u := s.endVerdict _) ⟨rfl, rfl, rfl⟩ _
  · exact State.portsOnly_beginFrame (u := s.endPassDown) ⟨rfl, rfl, rfl⟩ _
  · exact ⟨rfl, rfl, rfl⟩

/-- The end of the Office Port's transmission is an event of the ports, or takes the restart (R182). -/
theorem State.portsOnly_endOfficeFrame (s : State) :
    s.PortsOnly s.endOfficeFrame ∨ ∃ i, s.endOfficeFrame = (s.endReply i).restart := by
  unfold State.endOfficeFrame
  split
  · split
    · exact .inr ⟨_, rfl⟩
    · exact .inl (State.portsOnly_beginFrame (u := s.endReply _) ⟨rfl, rfl, rfl⟩ _)
  · exact .inl (State.portsOnly_beginFrame (u := s.endSettlement) ⟨rfl, rfl, rfl⟩ _)
  · exact .inl (State.portsOnly_beginFrame (u := s.endPassUp) ⟨rfl, rfl, rfl⟩ _)
  · exact .inl ⟨rfl, rfl, rfl⟩

/-- The taking of a tap frame changes the Station Port, the frame in work and the counters alone (R84, R85). -/
theorem State.tapFrameTaken_only (s : State) (f : Frame) (slot : Nat) :
    ∃ p m r, (s.claimSlot f slot).startFrame f slot =
      { s with station := p, matcher := { s.matcher with frame := m }, responder := r } ∧
      r.discardedSettlements = s.responder.discardedSettlements ∧ r.inWork = s.responder.inWork := by
  unfold State.startFrame
  dsimp only
  split
  · exact ⟨_, _, _, rfl, rfl, rfl⟩
  · exact ⟨_, _, _, rfl, rfl, rfl⟩

/-- The end of a check changes both banks, the Matcher and the capture record alone (R150, R151). -/
theorem State.endCheck_only (s : State) (b : BankId) : ∃ x y m r, s.endCheck b =
    { s with store := { s.store with bankA := x, bankB := y }, matcher := m, responder := r } ∧
      r.discardedSettlements = s.responder.discardedSettlements := by
  unfold State.endCheck
  cases checkFailure (s.words b) with
  | none => cases b <;> exact ⟨_, _, _, _, State.passCheck_eq s _, rfl⟩
  | some code => cases b <;> exact ⟨_, _, _, _, rfl, rfl⟩

/-! ### The waiting commands (logs 1, 24) -/

theorem RequestDone.pending {s t : State} {q : Request} (done : RequestDone s q t) : t.pending = s.pending := by
  cases done with
  | timeSet => simp [State.setTime, State.answer]
  | derivedRead => simp [State.answer]
  | scheduled => simp [State.answer, State.schedule]
  | banksRead => simp [State.answer]
  | sweepStarted => simp [State.answer, State.beginBurst]
  | sweepStopped => simp [State.answer, State.setSweep]
  | _ => rfl

/-- No command touches the commands that wait. -/
theorem Effects.pending {s t : State} {c : Instr} (e : Effects s c t) : t.pending = s.pending := by
  cases e with
  | worked work => exact work.pending
  | powerUp => exact s.stopStore_frame.2.2.2.2.2.2.2.2.2.2.2.2.2
  | reset => exact s.stopStore_frame.2.2.2.2.2.2.2.2.2.2.2.2.2
  | secondBoundary => simp
  | millisecondTick => simp
  | routed port f => rw [(s.portsOnly_routeFrame port f).only]
  | stationFrameEnd => rw [s.portsOnly_endStationFrame.only]
  | officeFrameEnd =>
    rcases s.portsOnly_endOfficeFrame with h | ⟨i, h⟩
    · rw [h.only]
    · rw [h]
      exact (s.endReply i).stopStore_frame.2.2.2.2.2.2.2.2.2.2.2.2.2
  | @tapFrameTaken f _ slot _ =>
    obtain ⟨p, m, r, h, -⟩ := s.tapFrameTaken_only f slot
    rw [h]
  | clearCompleted => simp [State.completeClear]
  | @checkEnded b _ =>
    obtain ⟨x, y, m, r, h, -⟩ := s.endCheck_only b
    rw [h]
  | request row _ => exact (row.done _ _).pending

/-- Settles O3: the answer of every command is one of its outcomes, and none of them touches the queue. -/
theorem everyCommandAnswersAndKeepsTheQueue : Obligations.EveryCommandAnswersAndKeepsTheQueue := by
  intro c s
  obtain ⟨t, run, moves⟩ := exec_answers c s
  exact ⟨t, run, moves.effects.pending⟩

/-! ### The records (R73, R80, R81) -/

theorem RequestDone.table {s t : State} {q : Request} (done : RequestDone s q t) : t.table = s.table := by
  cases done with
  | timeSet => simp [State.setTime, State.answer]
  | derivedRead => simp [State.answer]
  | scheduled => simp [State.answer, State.schedule]
  | banksRead => simp [State.answer]
  | sweepStarted => simp [State.answer, State.beginBurst]
  | sweepStopped => simp [State.answer, State.setSweep]
  | _ => rfl

theorem State.table_restart (s : State) : s.restart.table = s.table := s.stopStore_frame.2.1

/-- The records change by the work of a hold, in its bucket, or at a power-up. -/
theorem Effects.table {s t : State} {c : Instr} (e : Effects s c t) :
    s.tableKept t (commandScope c s).bucket ∨ ∃ dram node, c = .powerUp dram node ∧ t = s.powerUp dram node := by
  cases e with
  | worked work => exact .inl work.table
  | powerUp dram node => exact .inr ⟨dram, node, rfl, rfl⟩
  | reset => exact .inl s.table_restart
  | secondBoundary => exact .inl (show s.secondBoundary.table = s.table by simp)
  | millisecondTick => exact .inl (show s.millisecondTick.table = s.table by simp)
  | routed port f => exact .inl (by rw [(s.portsOnly_routeFrame port f).only]; rfl)
  | stationFrameEnd => exact .inl (by rw [s.portsOnly_endStationFrame.only]; rfl)
  | officeFrameEnd =>
    refine .inl ?_
    rcases s.portsOnly_endOfficeFrame with h | ⟨i, h⟩
    · rw [h.only]
      rfl
    · rw [h]
      exact (s.endReply i).table_restart
  | @tapFrameTaken f _ slot _ =>
    obtain ⟨p, m, r, h, -⟩ := s.tapFrameTaken_only f slot
    exact .inl (by rw [h]; rfl)
  | @clearCompleted clear _ => exact .inl (show (s.completeClear clear).table = s.table by simp [State.completeClear])
  | @checkEnded b _ =>
    obtain ⟨x, y, m, r, h, -⟩ := s.endCheck_only b
    exact .inl (by rw [h]; rfl)
  | request row _ =>
    have none : (commandScope c s).bucket = .none := by cases row <;> rfl
    rw [none]
    exact .inl (row.done _ _).table

theorem Hold.bucket?_none {h : Hold} (free : ∀ b r, h ≠ .held b r) : h.bucket? = .none := by
  cases h with
  | held b r => exact absurd rfl (free b r)
  | _ => rfl

/-- The records after a command that is no power-up: all stand where its block holds no bucket. -/
theorem table_of_noBucket {s t : State} {c : Instr} (run : exec c s = .next t) (notPowered : ∀ d n, c ≠ .powerUp d n)
    (free : (commandScope c s).bucket = none) : t.table = s.table := by
  rcases (moves_of_exec run).effects.table with kept | ⟨d, n, h, -⟩
  · rwa [free] at kept
  · exact absurd h (notPowered d n)

/-- The records after the work of a hold: those of the other buckets stand. -/
theorem sameWaysOutside_of_bucket {s t : State} {c : Instr} {b : Nat} (run : exec c s = .next t)
    (notPowered : ∀ d n, c ≠ .powerUp d n) (held : (commandScope c s).bucket = some b) : s.sameWaysOutside t b := by
  rcases (moves_of_exec run).effects.table with kept | ⟨d, n, h, -⟩
  · rw [held] at kept
    exact kept.1
  · exact absurd h (notPowered d n)

/-- Settles O13: the records change in the scope of the command alone. -/
theorem recordsChangeOnlyInTheHeldBucket : Obligations.RecordsChangeOnlyInTheHeldBucket := by
  refine ⟨?_, ?_, ?_, ?_, ?_, ?_, ?_⟩
  · intro c s t run
    rcases (moves_of_exec run).effects.table with kept | ⟨d, n, h, -⟩
    · cases c with
      | tapHoldGranted => exact .inr (.inl rfl)
      | writeBack => exact .inr (.inr (.inl rfl))
      | sweepHoldGranted => exact .inr (.inr (.inr (.inl rfl)))
      | powerUpStartPassBucket => exact .inr (.inr (.inr (.inr (.inl rfl))))
      | restartStartPassBucket => exact .inr (.inr (.inr (.inr (.inr (.inl rfl)))))
      | _ => exact .inl kept
    · exact .inr (.inr (.inr (.inr (.inr (.inr ⟨d, n, h⟩)))))
  · exact fun s t free run => table_of_noBucket run (by simp) (Hold.bucket?_none free)
  · exact fun s t free run => table_of_noBucket run (by simp) (Hold.bucket?_none free)
  · rintro c s t free (rfl | rfl | rfl) run
    · exact table_of_noBucket run (by simp) (Hold.bucket?_none free)
    · exact table_of_noBucket run (by simp) (Hold.bucket?_none free)
    · exact table_of_noBucket run (by simp) (Hold.bucket?_none free)
  · exact fun s t b r held run => sameWaysOutside_of_bucket run (by simp) (by simp [commandScope, held, Hold.bucket?])
  · exact fun s t b r held run => sameWaysOutside_of_bucket run (by simp) (by simp [commandScope, held, Hold.bucket?])
  · rintro c s t b r held (rfl | rfl | rfl) run
    · exact sameWaysOutside_of_bucket run (by simp) (by simp [commandScope, held, Hold.bucket?])
    · exact sameWaysOutside_of_bucket run (by simp) (by simp [commandScope, held, Hold.bucket?])
    · exact sameWaysOutside_of_bucket run (by simp) (by simp [commandScope, held, Hold.bucket?])

end Sys2Proof.Machine
end


section
/-!
The words of the banks (R139 to R145, R150): they change by a clear in the bank, by a check of it, or by unit writes while
it is STAGING; from that the canonical form of both stores and the frozen words of a bank that is not STAGING.
-/
namespace Sys2Proof.Machine

open Sys2Proof

/-- The words that a bank can come to in one command: as they are, with some cleared where a clear is in flight in it,
with some of the derived column written while it is CHECKING, or with units written while it is STAGING. -/
inductive Bank.Rewrites (k : Bank) (clearing : Prop) : WordMem → Prop
  | same : Rewrites k clearing k.words
  | cleared {m : WordMem} (inFlight : clearing) (p : Nat × Word → Bool) (before : Rewrites k clearing m) :
      Rewrites k clearing (m.filter p)
  | derived {m : WordMem} (checking : k.state = .checking) (lo hi : Nat) (inColumn : hi ≤ 64 ∨ hi ≤ lo)
      (before : Rewrites k clearing m) : Rewrites k clearing (writeDerived m lo hi)
  | put {m : WordMem} (staging : k.state = .staging) (o : Nat) (ws : List Word) (before : Rewrites k clearing m) :
      Rewrites k clearing (writeWords m o ws)

theorem Bank.Rewrites.wordsWf {k : Bank} {clearing : Prop} {m : WordMem} (r : k.Rewrites clearing m)
    (wf : wordsWf k.words) : wordsWf m := by
  induction r with
  | same => exact wf
  | cleared _ p _ ih => exact wordsWf_filter _ p ih
  | derived _ _ _ _ _ ih => exact wordsWf_writeWords _ _ _ ih
  | put _ _ _ _ ih => exact wordsWf_writeWords _ _ _ ih

/-- Words outside a run of writes stand, in canonical form or not. -/
theorem wordAt_writeWords_outside {j : Nat} : ∀ (ws : List Word) (m : WordMem) (k : Nat), j < k ∨ k + ws.length ≤ j →
    wordAt (writeWords m k ws) j = wordAt m j
  | [], _, _, _ => rfl
  | w :: ws, m, k, h => by
    simp only [List.length_cons] at h
    rw [writeWords, wordAt_writeWords_outside ws _ _ (by omega), wordAt_writeWord_ne m w (by omega)]

theorem wordAt_writeDerived_outside {j lo hi : Nat} (m : WordMem) (inColumn : hi ≤ 64 ∨ hi ≤ lo)
    (outside : ¬(1536 ≤ j ∧ j ≤ 1599)) : wordAt (writeDerived m lo hi) j = wordAt m j :=
  wordAt_writeWords_outside _ _ _ (by simp only [List.length_map, List.length_range]; omega)

/-- A bank that is not STAGING and not being cleared keeps its words, but for the derived area while it is CHECKING. -/
theorem Bank.Rewrites.frozen {k : Bank} {clearing : Prop} {m : WordMem} (r : k.Rewrites clearing m)
    (notStaging : k.state ≠ .staging) (noClear : ¬clearing) :
    (k.state ≠ .checking → m = k.words) ∧ ∀ o, ¬(1536 ≤ o ∧ o ≤ 1599) → wordAt m o = wordAt k.words o := by
  induction r with
  | same => exact ⟨fun _ => rfl, fun _ _ => rfl⟩
  | cleared inFlight => exact absurd inFlight noClear
  | put staging => exact absurd staging notStaging
  | derived checking lo hi inColumn _ ih =>
    exact ⟨fun no => absurd checking no, fun o outside =>
      (wordAt_writeDerived_outside _ inColumn outside).trans (ih.2 o outside)⟩

/-- The words of both banks in `t` are such as one command can bring those of `s` to. -/
def State.Rewritten (s t : State) : Prop :=
  ∀ k, (s.bank k).Rewrites (∃ c, s.store.clear = some c ∧ c.bank = k) (t.words k)

theorem State.rewritten_of_store {s t : State} (h : t.store = s.store) : s.Rewritten t := fun k => by
  have same : t.words k = s.words k := by
    rw [State.words, State.bank, h]
    rfl
  rw [same]
  exact .same

theorem State.rewritten_of_words {s t : State} (h : ∀ k, t.words k = s.words k) : s.Rewritten t := fun k => by
  rw [h k]
  exact .same

/-- One bank's words rewritten. -/
theorem State.rewritten_setBank {s t u : State} {b : BankId} {v : Bank} (before : s.Rewritten t)
    (words : (s.bank b).Rewrites (∃ c, s.store.clear = some c ∧ c.bank = b) v.words)
    (h : u.store.bankA = (t.setBank b v).store.bankA ∧ u.store.bankB = (t.setBank b v).store.bankB) :
    s.Rewritten u := by
  have banks : ∀ k, u.bank k = (t.setBank b v).bank k := fun k => by
    cases k with
    | A => exact h.1
    | B => exact h.2
  intro k
  rw [State.words, banks k]
  by_cases hk : k = b
  · subst hk
    rw [State.bank_setBank_self]
    exact words
  · rw [State.bank_setBank_ne _ _ hk]
    exact before k

/-- A clear in flight that has come further has cleared words of its bank alone (R140). -/
theorem State.rewritten_advanceClear (s : State) : s.Rewritten s.advanceClear := by
  unfold State.advanceClear
  split
  · next c hc => exact State.rewritten_setBank (State.rewritten_of_store rfl) (.cleared ⟨c, hc, rfl⟩ _ .same) ⟨rfl, rfl⟩
  · exact State.rewritten_of_store rfl

theorem State.clear_advanceClear (s : State) : (∃ c, s.advanceClear.store.clear = some c) → ∃ c d,
    s.store.clear = some c ∧ s.advanceClear.store.clear = some d ∧ d.bank = c.bank := by
  unfold State.advanceClear
  split
  · next c hc => exact fun _ => ⟨c, _, hc, rfl, rfl⟩
  · next hc => exact fun ⟨c, h⟩ => by simp [hc] at h

/-- A clear broken off leaves some words of the unit it was clearing (R141). -/
theorem State.rewritten_breakClear (s : State) : s.Rewritten s.breakClear := by
  have before := s.rewritten_advanceClear
  unfold State.breakClear
  dsimp only
  split
  · next d hd =>
    obtain ⟨c, d', hc, hd', same⟩ := s.clear_advanceClear ⟨d, hd⟩
    obtain rfl : d = d' := Option.some.inj (hd.symm.trans hd')
    refine State.rewritten_setBank before (?_ : (s.bank d.bank).Rewrites _ (clearPart _ _ _)) ⟨rfl, rfl⟩
    unfold clearPart
    dsimp only
    split
    · exact before _
    · exact .cleared ⟨c, hc, same.symm⟩ _ (before _)
  · exact before

theorem State.states_breakClear (s : State) (b : BankId) : (s.breakClear.bank b).state = (s.bank b).state := by
  have advanced : (s.advanceClear.bank b).state = (s.bank b).state := by
    unfold State.advanceClear
    split
    · next c _ => cases c.bank <;> cases b <;> rfl
    · rfl
  rw [← advanced]
  unfold State.breakClear
  dsimp only
  split
  · next c _ => cases c.bank <;> cases b <;> rfl
  · rfl

/-- The further words of the derived column that a check in flight has written (R144, R150). -/
theorem State.rewritten_advanceCheck {s t : State} (before : s.Rewritten t)
    (states : ∀ k, (t.bank k).state = (s.bank k).state) (b : BankId) : s.Rewritten (t.advanceCheck b) := by
  unfold State.advanceCheck
  dsimp only
  split
  · next h =>
    refine State.rewritten_setBank before (.derived (by rw [← states]; exact h.1) _ _ ?_ (before b)) ⟨rfl, rfl⟩
    omega
  · exact before

theorem State.states_advanceCheck (s : State) (b k : BankId) : ((s.advanceCheck b).bank k).state = (s.bank k).state := by
  unfold State.advanceCheck
  dsimp only
  split
  · cases b <;> cases k <;> rfl
  · rfl

theorem State.rewritten_stopStore (s : State) : s.Rewritten s.stopStore := by
  have one := State.rewritten_advanceCheck s.rewritten_breakClear s.states_breakClear .A
  exact State.rewritten_advanceCheck one (fun k => by rw [State.states_advanceCheck, State.states_breakClear]) .B

theorem State.words_resetBlocks (s : State) (kind : PassKind) (n : Nat) (k : BankId) :
    (s.resetBlocks kind n).words k = s.words k := by
  cases k <;> rfl

theorem State.rewritten_restart (s : State) : s.Rewritten s.restart := fun k => by
  rw [State.restart, State.words_resetBlocks]
  exact s.rewritten_stopStore k

theorem State.words_powerUp (s : State) (dram : DramStrap) (node : Octet) (k : BankId) :
    (s.powerUp dram node).words k = s.stopStore.words k := by
  have kept : ∀ b : Bank, b.powerUp.words = b.words := fun b => by unfold Bank.powerUp; split <;> rfl
  cases k
  · exact kept _
  · exact kept _

theorem State.words_timeTrigger (s : State) (now : LineTime) (k : BankId) :
    (s.timeTrigger now).words k = s.words k := (((State.Worked.refl {} s).timeTrigger now).bank k).words

theorem State.words_secondBoundary (s : State) (k : BankId) : s.secondBoundary.words k = s.words k := by
  rw [State.secondBoundary_eq, State.words_timeTrigger]
  rfl

/-- An activation check rewrites the derived column of the bank that passes it, and nothing else (R150, R151). -/
theorem State.rewritten_endCheck {s : State} {b : BankId} (checking : (s.bank b).state = .checking) :
    s.Rewritten (s.endCheck b) := by
  have replaced : ∀ x : Bank, x.replaced.words = x.words := fun x => by unfold Bank.replaced; split <;> rfl
  unfold State.endCheck
  cases checkFailure (s.words b) with
  | none =>
    rw [State.endCheckAs, State.passCheck_eq]
    have first : s.Rewritten (s.setBank b.other (s.bank b.other).replaced) :=
      State.rewritten_setBank (State.rewritten_of_store (s := s) rfl) (by rw [replaced]; exact .same) ⟨rfl, rfl⟩
    exact State.rewritten_setBank first (.derived checking 0 64 (.inl le_rfl) .same) ⟨rfl, rfl⟩
  | some code =>
    rw [State.endCheckAs]
    exact State.rewritten_setBank (b := b) (v := (s.bank b).failed code) (State.rewritten_of_store (s := s) rfl) .same
      ⟨rfl, rfl⟩

theorem State.checkingBank_some {s : State} {b : BankId} (h : s.checkingBank = some b) :
    (s.bank b).state = .checking := by
  unfold State.checkingBank at h
  split at h
  · cases h
    assumption
  · split at h
    · cases h
      assumption
    · cases h

theorem State.writeRefusal_none_staging {s : State} {b : BankId} {o : Nat} (h : s.writeRefusal b o = none) :
    (s.bank b).state = .staging := by
  unfold State.writeRefusal at h
  split at h
  · cases h
  · exact not_not.1 ‹_›

theorem RequestDone.rewritten {s t : State} {q : Request} (done : RequestDone s q t) : s.Rewritten t := by
  cases done with
  | timeSet => exact State.rewritten_of_words fun k => (State.words_timeTrigger _ _ k).trans rfl
  | clearTaken => exact State.rewritten_of_words fun k => by cases k <;> rfl
  | unitPut ws d writable =>
    exact State.rewritten_setBank (State.rewritten_of_store (s := s) rfl)
      (.put (State.writeRefusal_none_staging writable) _ ws .same) ⟨rfl, rfl⟩
  | pointerSet => exact State.rewritten_of_words fun k => by cases k <;> rfl
  | derivedRead b =>
    exact State.rewritten_advanceCheck (State.rewritten_of_store (s := s) rfl) (fun _ => rfl) b
  | @scheduled b t d _ =>
    refine State.rewritten_of_words fun k => ?_
    have tested := (((State.Worked.refl {} (s.setBank b
      { s.bank b with state := .scheduled, activation := some t, checkCode := 0 })).testSchedule
        s.clock.lineSeconds).bank k).words
    exact tested.trans (by cases b <;> cases k <;> rfl)
  | @unscheduled b => exact State.rewritten_of_words fun k => by cases b <;> cases k <;> rfl
  | banksRead => exact s.rewritten_advanceClear
  | sweepStarted => exact State.rewritten_of_store (by simp [State.answer, State.beginBurst])
  | sweepStopped => exact State.rewritten_of_store (by simp [State.answer, State.setSweep])
  | _ => exact State.rewritten_of_store rfl

/-- What every command can do to the words of the banks. -/
theorem Effects.rewritten {s t : State} {c : Instr} (e : Effects s c t) : s.Rewritten t := by
  cases e with
  | worked work => exact State.rewritten_of_words fun k => (work.bank k).words
  | powerUp dram node => exact fun k => by rw [State.words_powerUp]; exact s.rewritten_stopStore k
  | reset => exact s.rewritten_restart
  | secondBoundary => exact State.rewritten_of_words s.words_secondBoundary
  | millisecondTick => exact State.rewritten_of_store (by simp)
  | routed port f => exact State.rewritten_of_store (by rw [(s.portsOnly_routeFrame port f).only])
  | stationFrameEnd => exact State.rewritten_of_store (by rw [s.portsOnly_endStationFrame.only])
  | officeFrameEnd =>
    rcases s.portsOnly_endOfficeFrame with h | ⟨i, h⟩
    · exact State.rewritten_of_store (by rw [h.only])
    · rw [h]
      exact (s.endReply i).rewritten_restart
  | @tapFrameTaken f _ slot _ =>
    obtain ⟨p, m, r, h, -⟩ := s.tapFrameTaken_only f slot
    exact State.rewritten_of_store (by rw [h])
  | @clearCompleted clear inFlight =>
    exact State.rewritten_setBank (State.rewritten_of_store (s := s) rfl) (.cleared ⟨clear, inFlight, rfl⟩ _ .same)
      ⟨rfl, rfl⟩
  | checkEnded checking => exact State.rewritten_endCheck (State.checkingBank_some checking)
  | @request _ _ entry f q row _ => exact (row.done (s.reserve entry f) q).rewritten

/-- Settles O12: a bank that is not STAGING is not being cleared and takes no unit write. -/
theorem frozenBanksKeepTheirWords : Obligations.FrozenBanksKeepTheirWords := by
  rintro c s t b ⟨-, -, clearing⟩ notStaging run
  refine ((moves_of_exec run).effects.rewritten b).frozen notStaging ?_
  rintro ⟨d, hd, rfl⟩
  exact notStaging (clearing d hd)

/-! ### The canonical form (spec/04, 4.2; spec/08, 8.1) -/

theorem State.storesCanonical_of {s t : State} (words : s.Rewritten t)
    (table : sparseRising s.table → sparseRising t.table) (canonical : s.storesCanonical) : t.storesCanonical := by
  obtain ⟨a, b, rising⟩ := canonical
  exact ⟨(words .A).wordsWf a, (words .B).wordsWf b, table rising⟩

theorem Effects.rising {s t : State} {c : Instr} (e : Effects s c t) (rising : sparseRising s.table) :
    sparseRising t.table := by
  rcases e.table with kept | ⟨d, n, -, rfl⟩
  · generalize (commandScope c s).bucket = b at kept
    cases b with
    | none => exact Eq.substr (p := sparseRising) kept rising
    | some b => exact kept.2 rising
  · exact sparseRising_nil

theorem State.words_millisecondTick (s : State) (k : BankId) : s.millisecondTick.words k = s.words k := by
  rw [State.words, State.bank, s.millisecondTick_frame.1]
  rfl

/-- What one period of the timing input keeps: the count of either divider, and either event (R128, R131). -/
theorem State.referencePeriod_induct {P : State → Prop} {s : State}
    (counted : s.clock.phase + 1 < s.clock.length → P { s with clock := { s.clock with phase := s.clock.phase + 1 } })
    (boundary : P s.secondBoundary)
    (divided : ∀ u : State, u.clock.msDivider + 1 < 10000 → P u →
      P { u with clock := { u.clock with msDivider := u.clock.msDivider + 1 } })
    (ticked : ∀ u : State, P u → P u.millisecondTick) : P s.referencePeriod := by
  have second : P (if s.clock.phase + 1 < s.clock.length then
      { s with clock := { s.clock with phase := s.clock.phase + 1 } } else s.secondBoundary) := by
    split
    · exact counted ‹_›
    · exact boundary
  unfold State.referencePeriod
  generalize (if s.clock.phase + 1 < s.clock.length then
    { s with clock := { s.clock with phase := s.clock.phase + 1 } } else s.secondBoundary : State) = u at second
  dsimp only
  split
  · exact divided u ‹_› second
  · exact ticked u second

theorem State.words_referencePeriod (s : State) (k : BankId) : s.referencePeriod.words k = s.words k :=
  State.referencePeriod_induct (P := fun u => u.words k = s.words k) (fun _ => rfl) (s.words_secondBoundary k)
    (fun _ _ h => h) fun u h => (u.words_millisecondTick k).trans h

/-- Settles O4: every rewriting of a store keeps its canonical form. -/
theorem storesStayCanonical : Obligations.StoresStayCanonical :=
  step_keeps (fun _ _ canonical => canonical)
    (fun s canonical => State.storesCanonical_of (State.rewritten_of_words s.words_referencePeriod)
      (fun rising => by simpa using rising) canonical)
    fun _ _ _ canonical moves => State.storesCanonical_of moves.effects.rewritten moves.effects.rising canonical

end Sys2Proof.Machine
end


section
/-!
The step of the whole part (log 4), the millisecond tick and the end of a pause, and the two ports: routing, the far
end's pause, the choice of a frame, the end of a transmission.
-/
namespace Sys2Proof.Machine

open Sys2Proof

theorem step_of_pending {s : State} {c : Instr} {rest : List Instr} (h : s.pending = c :: rest) :
    step s = exec c { s with pending := rest } := by
  simp only [step, h]
  rfl

theorem step_of_idle {s : State} (h : s.pending = []) : step s = .next s.referencePeriod := by
  simp only [step, h]

/-- Settles O1: by the definition of a step. -/
theorem stepRunsTheFrontCommand : Obligations.StepRunsTheFrontCommand := fun _ _ _ => step_of_pending

theorem exec_millisecondTick (s : State) : exec .millisecondTick s = .next s.millisecondTick := rfl

theorem State.msDivider_secondBoundary (s : State) : s.secondBoundary.clock.msDivider = s.clock.msDivider := by
  rw [State.clock_secondBoundary]
  rfl

/-- Settles O2: the two dividers, each below its length or not. -/
theorem idleStepIsOneReferencePeriod : Obligations.IdleStepIsOneReferencePeriod := by
  intro s idle
  rw [step_of_idle idle]
  have divider := s.msDivider_secondBoundary
  refine ⟨fun phase ms => ?_, fun phase ms => ⟨_, exec_secondBoundary s, ?_⟩, fun phase ms => ?_,
    fun phase ms => ⟨_, exec_secondBoundary s, ?_⟩⟩
  · simp [State.referencePeriod, phase, ms]
  · simp [State.referencePeriod, Nat.not_lt.2 phase, divider, ms]
  · simp [State.referencePeriod, phase, Nat.not_lt.2 ms, exec_millisecondTick]
  · simp [State.referencePeriod, Nat.not_lt.2 phase, divider, Nat.not_lt.2 ms, exec_millisecondTick]

theorem State.beginBurst_eq (s : State) : s.beginBurst = { s with
    sweeper := { s.sweeper with state := .burst, burstDone := 0 }
    holds := { s.holds with sweeper := s.holdGiven s.sweeper.pointer } } := by
  rw [State.beginBurst, State.requestHold_eq]
  rfl

/-- Settles O17: the tick is counted in PAUSE alone, and the burst begins once the count has come to the pause. -/
theorem pauseCountsTicksAndRunsOut : Obligations.PauseCountsTicksAndRunsOut := by
  refine ⟨fun s => ?_, fun s pause come => ?_, fun s h => ?_⟩
  · rw [exec_millisecondTick, State.millisecondTick]
    dsimp only
    split <;> rfl
  · have run : exec .pauseRunsOut s = .next s.beginBurst := if_pos ⟨pause, come⟩
    rw [run, State.beginBurst_eq]
  · exact if_neg fun ⟨pause, come⟩ => h.elim (· pause) (Nat.not_lt.2 come)

/-! ### Frames that come in (R157 to R162) -/

theorem exec_frameReceived {port : Port} {f : Frame} (wf : frameWellFormed f = true) (s : State) :
    exec (.frameReceived port f) s = .next ((s.setAwait port false).routeFrame port f) := if_pos wf

theorem exec_frameReceived_malformed {port : Port} {f : Frame} (wf : frameWellFormed f = false) (s : State) :
    exec (.frameReceived port f) s = .next ((s.setAwait port false).failCheck port (octetAt f 0) (octetAt f 2)) :=
  if_neg (by simp [wf])

theorem State.failCheck_eq (s : State) (port : Port) (kind source : Octet) : s.failCheck port kind source = { s with
    responder := { s.responder with
      counters := s.responder.counters.addDiscarded
      fault := s.responder.fault.after .frameCheck s.clock.lineSeconds source
        (match port with | .station => 0 | .office => 1) (kind.setWidth 16) } } := by
  have code : BitVec.ofNat 16 (Port.code port) = match port with | .station => 0 | .office => 1 := by cases port <;> rfl
  have wide : BitVec.ofNat 16 kind.toNat = kind.setWidth 16 := BitVec.ofNat_toNat _ _
  rw [State.failCheck, State.capture, FaultCapture.attempt_eq_after, code, wide]
  rfl

/-- Settles O18: by the port, the destination, the kind, and whether the queue is full. -/
theorem framesAreRoutedOrDiscarded : Obligations.FramesAreRoutedOrDiscarded := by
  refine ⟨fun s f wf => ⟨_, _, exec_frameReceived wf s, exec_frameReceived wf s, ?_, ?_, ?_, ?_, ?_, ?_⟩,
    fun s port f kind source => ⟨fun wf => ?_, ?_⟩⟩
  · intro here tap room
    simp [State.setAwait, State.routeFrame, here, tap, kindTap, State.joinStationIntake, Config.stationIntakePlaces, room,
      conditionRises]
  · intro away room
    simp [State.setAwait, State.routeFrame, away, State.joinPassUp, Config.passPlaces, room, conditionRises]
  · rintro (⟨here, kind | full⟩ | ⟨away, full⟩)
    · have other : frameKind f ≠ kindTap := kind
      simp [State.setAwait, State.routeFrame, here, other, State.discard, State.count, Counters.addDiscarded]
    · simp only [State.setAwait, State.routeFrame, here, State.joinStationIntake, Config.stationIntakePlaces,
        Nat.not_lt.2 full, State.discard, State.count, Counters.addDiscarded, ne_eq, not_true_eq_false, if_false, ite_self]
    · simp [State.setAwait, State.routeFrame, away, State.joinPassUp, Config.passPlaces, Nat.not_lt.2 full, State.discard,
        State.count, Counters.addDiscarded]
  · intro here request room
    simp [State.setAwait, State.routeFrame, here, request, kindRequest, State.joinOfficeIntake, Config.officeIntakePlaces,
      room, conditionRises]
  · intro away room
    simp [State.setAwait, State.routeFrame, away, State.joinPassDown, Config.passPlaces, room, conditionRises]
  · rintro (⟨here, kind | full⟩ | ⟨away, full⟩)
    · have other : frameKind f ≠ kindRequest := kind
      simp [State.setAwait, State.routeFrame, here, other, State.discard, State.count, Counters.addDiscarded]
    · simp only [State.setAwait, State.routeFrame, here, State.joinOfficeIntake, Config.officeIntakePlaces,
        Nat.not_lt.2 full, State.discard, State.count, Counters.addDiscarded, ne_eq, not_true_eq_false, if_false, ite_self]
    · simp [State.setAwait, State.routeFrame, away, State.joinPassDown, Config.passPlaces, Nat.not_lt.2 full,
        State.discard, State.count, Counters.addDiscarded]
  · rw [exec_frameReceived_malformed wf, State.failCheck_eq]
    cases port <;> rfl
  · have run : exec (.frameOverlengthDiscard port kind source) s =
        .next ((s.setAwait port true).failCheck port kind source) := rfl
    rw [run, State.failCheck_eq]
    cases port <;> rfl

/-! ### The far end's pause, and the end of a transmission (R162 to R166, R182) -/

theorem exec_frameBegin (s : State) (port : Port) : exec (.frameBegin port) s = .next (s.beginFrame port) := rfl

theorem StationPort.begin_held {p : StationPort} (held : p.farEndPause = true ∨ p.sending ≠ none) (node : Octet) :
    p.begin node = p := if_pos held

theorem OfficePort.begin_held {p : OfficePort} (held : p.farEndPause = true ∨ p.sending ≠ none) (node : Octet) :
    p.begin node = p := if_pos held

theorem StationPort.farEndPause_begin (p : StationPort) (node : Octet) : (p.begin node).farEndPause = p.farEndPause := by
  unfold StationPort.begin
  split
  · rfl
  · split
    any_goals rfl
    split <;> rfl

theorem OfficePort.farEndPause_begin (p : OfficePort) (node : Octet) : (p.begin node).farEndPause = p.farEndPause := by
  unfold OfficePort.begin
  split
  · rfl
  · split
    any_goals rfl
    split <;> rfl

theorem exec_frameTransmissionEnd_station (s : State) :
    exec (.frameTransmissionEnd .station) s = .next s.endStationFrame := rfl

theorem exec_frameTransmissionEnd_office (s : State) :
    exec (.frameTransmissionEnd .office) s = .next s.endOfficeFrame := rfl

/-- Settles O19: by what is being sent. -/
theorem pausesAndEndsLetThePortsChoose : Obligations.PausesAndEndsLetThePortsChoose := by
  refine ⟨fun s => ⟨rfl, rfl, ⟨_, rfl, ?_, rfl⟩, ⟨_, rfl, ?_, rfl⟩, fun held => ?_, fun held => ?_⟩,
    fun s => ⟨fun i o h => ⟨_, rfl, ?_⟩, fun o h => ⟨_, rfl, ?_⟩, fun o h => ⟨_, rfl, ?_⟩, fun o h => ⟨_, rfl, ?_⟩,
      fun i o h other => ⟨_, rfl, ?_⟩, fun i o h pending => ⟨_, rfl, ?_⟩⟩⟩
  · exact StationPort.farEndPause_begin _ _
  · exact OfficePort.farEndPause_begin _ _
  · rw [exec_frameBegin, State.beginFrame, StationPort.begin_held held]
  · rw [exec_frameBegin, State.beginFrame, OfficePort.begin_held held]
  · rw [State.endStationFrame, h]
    rfl
  · rw [State.endStationFrame, h]
    rfl
  · rw [State.endOfficeFrame, h]
    rfl
  · rw [State.endOfficeFrame, h]
    rfl
  · simp only [State.endOfficeFrame, h, if_neg other]
    rfl
  · simp only [State.endOfficeFrame, h, if_pos pending]
    rfl

/-! ### The choice of a frame (R163 to R166) -/

theorem StationPort.begin_free {p : StationPort} (released : p.farEndPause = false) (idle : p.sending = none)
    (node : Octet) : p.begin node =
      match p.readySlots, p.passDown with
      | [], [] => p
      | slot :: _, [] => p.beginVerdict node slot
      | [], f :: _ => p.beginPass f
      | slot :: _, f :: _ => if p.turnVerdicts then p.beginVerdict node slot else p.beginPass f :=
  if_neg (by simp [released, idle])

theorem OfficePort.begin_free {p : OfficePort} (released : p.farEndPause = false) (idle : p.sending = none)
    (node : Octet) : p.begin node =
      match p.readyReplies, p.settlements, p.passUp with
      | entry :: _, _, _ => p.beginReply node entry
      | [], [], [] => p
      | [], x :: _, [] => p.beginSettlement node x
      | [], [], f :: _ => p.beginPass f
      | [], x :: _, f :: _ => if p.turnSettlements then p.beginSettlement node x else p.beginPass f :=
  if_neg (by simp [released, idle])

theorem StationPort.beginVerdict_eq {p : StationPort} {i : Nat} {rest : List Nat} {v : VerdictSlot} (node : Octet)
    (ready : p.readySlots = i :: rest) (slot : p.verdicts[i]? = some v) : p.beginVerdict node i = { p with
      verdicts := p.verdicts.set i { v with state := .sending }, readySlots := rest, turnVerdicts := false
      sending := some (.verdict i (buildFrame 2 v.source node v.sequence (verdictPayload v))) } := by
  have named : p.verdicts.getD i {} = v := by rw [List.getD_eq_getElem?_getD, slot, Option.getD_some]
  rw [StationPort.beginVerdict, named, ready]
  rfl

theorem OfficePort.beginReply_eq {p : OfficePort} {i : Nat} {rest : List Nat} {r : ReplyEntry} (node : Octet)
    (ready : p.readyReplies = i :: rest) (entry : p.replies[i]? = some r) : p.beginReply node i = { p with
      replies := p.replies.set i { r with state := .sending }, readyReplies := rest
      sending := some (.reply i (buildFrame 5 r.dest node r.sequence (replyPayload r))) } := by
  have named : p.replies.getD i {} = r := by rw [List.getD_eq_getElem?_getD, entry, Option.getD_some]
  rw [OfficePort.beginReply, named, ready]
  rfl

/-- Settles O20: by the kinds that are ready and the turn. -/
theorem portsBeginFramesByTurn : Obligations.PortsBeginFramesByTurn := by
  refine ⟨fun s released idle => ?_, fun s released idle => ?_⟩
  · rw [exec_frameBegin, State.beginFrame, StationPort.begin_free released idle]
    refine ⟨fun i rest v ready slot turn => ?_, fun f rest pass turn => ?_, fun none pass => ?_⟩
    · rw [← StationPort.beginVerdict_eq s.node ready slot, ready]
      rcases turn with pass | turn
      · rw [pass]
      · cases s.station.passDown <;> simp [turn]
    · rw [pass]
      rcases turn with none | turn
      · rw [none]
        rfl
      · cases s.station.readySlots <;> simp [turn, StationPort.beginPass]
    · rw [none, pass]
  · rw [exec_frameBegin, State.beginFrame, OfficePort.begin_free released idle]
    refine ⟨fun i rest r ready entry => ?_, fun x rest none settled turn => ?_, fun f rest none pass turn => ?_,
      fun none settled pass => ?_⟩
    · rw [← OfficePort.beginReply_eq s.node ready entry, ready]
    · rw [none, settled]
      rcases turn with pass | turn
      · rw [pass]
        rfl
      · cases s.office.passUp <;> simp [turn, OfficePort.beginSettlement, settlementFrame, kindSettlement]
    · rw [none, pass]
      rcases turn with settled | turn
      · rw [settled]
        rfl
      · cases s.office.settlements <;> simp [turn, OfficePort.beginPass]
    · rw [none, settled, pass]

end Sys2Proof.Machine
end


section
/-!
What the Matcher does before the hold (R83 to R91): a frame claims a slot, a record is refused or admitted, a granted
slot seeks the bucket; the waits and the duplicate in the hold (R92, R94). Also the state after reset.
-/
namespace Sys2Proof.Machine

open Sys2Proof

/-! ### The state after reset -/

theorem State.reset_get_held {who : Holder} {b : Nat} {r : Reading} (h : State.reset.holds.get who = .held b r) :
    who = .sweeper ∧ r = {} := by
  cases who with
  | sweeper => exact ⟨rfl, (Hold.held.inj h).2.symm⟩
  | fau => cases h
  | matcher => cases h

/-- Settles O11: each invariant on the state as delivered. -/
theorem resetMeetsEveryInvariant : Obligations.ResetMeetsEveryInvariant := by
  refine ⟨?_, ?_, ?_, ?_, ?_, ?_, ?_, ?_, Nat.zero_le _⟩
  · simp [State.storesCanonical, wordsWf, State.reset]
  · simp [State.withinCapacity, FauState.claimsEntry, State.reset, Config.verdictSlots, Config.replyEntries]
  · simp [State.pausesSound, conditionSound, State.reset]
  · simp [State.slotsSound, MatcherWork.slotsSound, State.reset]
  · simp [State.banksSound, Bank.onSchedule, State.reset]
  · rintro h ⟨⟩
  · intro b x y p q hx hy
    rw [(State.reset_get_held hx).1, (State.reset_get_held hy).1]
  · refine ⟨.inl rfl, by decide, by decide, by decide, by decide, by decide, by decide, ⟨by decide, ?_⟩, by decide, nofun⟩
    intro who b r h
    rw [(State.reset_get_held h).2]
    decide

/-! ### A tap frame is taken (R84, R85) -/

theorem StationPort.settleSlot_set {p : StationPort} {i : Nat} (inside : i < p.verdicts.length) (v : VerdictSlot)
    (claimed : v.state = .taken) : ({ p with verdicts := p.verdicts.set i v } : StationPort).settleSlot i =
      if v.allComplete = true then
        { p with verdicts := p.verdicts.set i { v with state := .ready }, readySlots := p.readySlots ++ [i] }
      else { p with verdicts := p.verdicts.set i v } := by
  simp only [StationPort.settleSlot, List.getElem?_set_self inside, claimed, true_and, List.set_set]

theorem tapCount_pos {p : List Octet} (wellFormed : tapFrameMalformed p = false) : tapCount p ≠ 0 := by
  simp only [tapFrameMalformed, Bool.or_eq_false_iff, beq_eq_false_iff_ne] at wellFormed
  exact wellFormed.1.1

theorem tapRecords_fresh (p : List Octet) : ((tapRecords p).map fun _ => VerdictEntry.fresh) =
    List.replicate (octetAt p 0).toNat ⟨false, none, {}, 0, 0⟩ := by
  rw [tapRecords, List.map_map, tapCount]
  exact (List.map_const' ..).trans (by rw [List.length_range])

theorem exec_tapFrameTaken {s : State} {f : Frame} {rest : List Frame} {slot : Nat} (idle : s.matcher.work = .none)
    (noFrame : s.matcher.frame = none) (intake : s.station.intake = f :: rest)
    (free : freePlace VerdictSlot.state s.station.verdicts = some slot) :
    exec .tapFrameTaken s = .next ((s.claimSlot f slot).startFrame f slot) := by
  have run : exec .tapFrameTaken s = execTapFrameTaken s := rfl
  rw [run, execTapFrameTaken, idle, noFrame, intake, free]

/-- Settles O22: the frame is malformed as a whole, or not. -/
theorem tapFrameClaimsAVerdictSlot : Obligations.TapFrameClaimsAVerdictSlot := by
  intro s f rest slot idle noFrame intake free p taken
  obtain ⟨place, named, -⟩ := freePlace_some free
  have inside : slot < s.station.dropIntake.verdicts.length := (List.getElem?_eq_some_iff.1 named).1
  have dropped : s.station.dropIntake = taken := by simp [StationPort.dropIntake, intake, conditionFalls, taken]
  rw [exec_tapFrameTaken idle noFrame intake free, State.startFrame, State.claimSlot]
  refine ⟨fun sound => ?_, fun malformed => ?_⟩
  · have waits : (VerdictSlot.mk .taken (frameSource f) (frameSequence f)
        (List.replicate (octetAt p 0).toNat ⟨false, none, {}, 0, 0⟩)).allComplete ≠ true := by
      have records : (octetAt p 0).toNat ≠ 0 := tapCount_pos sound
      simp [VerdictSlot.allComplete, records]
    simp only [show tapFrameMalformed (framePayload f) = false from sound, tapRecords_fresh, Bool.false_eq_true, if_false]
    rw [show s.station.verdicts = s.station.dropIntake.verdicts from rfl, StationPort.settleSlot_set inside _ rfl,
      if_neg waits, dropped]
  · simp only [show tapFrameMalformed (framePayload f) = true from malformed, if_true]
    rw [show s.station.verdicts = s.station.dropIntake.verdicts from rfl, StationPort.settleSlot_set inside _ rfl,
      if_pos (c := VerdictSlot.allComplete _ = true) rfl, dropped]
    rfl

/-! ### A record is begun (R83, R87 to R91) -/

theorem exec_tapRecord {s : State} {f : FrameInWork} {r : TapRecord} {rest : List TapRecord}
    (idle : s.matcher.work = .none) (frame : s.matcher.frame = some f) (next : f.remaining = r :: rest)
    (noAssist : s.assistWaits = false) :
    exec .tapRecord s = .next ((s.beginRecord f rest).testRecord (f.handling r)) := by
  have run : exec .tapRecord s = execTapRecord s := rfl
  simp only [run, execTapRecord, idle, frame, next, noAssist, Bool.false_eq_true, if_false]

theorem exec_tapRecord_rejudge {s : State} {h : Handling} {bank : BankId} (again : s.matcher.work = .rejudge h)
    (active : s.activeBank = some bank) : exec .tapRecord s = .next (s.judgeRecord h bank) := by
  have run : exec .tapRecord s = execTapRecord s := rfl
  simp only [run, execTapRecord, again, active]

/-- The tests of a record under the ACTIVE bank, refusals in order (R87 to R89). -/
theorem State.testRecord_ready {s : State} {bank : BankId} (ready : s.matcher.readiness = .ready)
    (active : s.activeBank = some bank) (h : Handling) : s.testRecord h =
      if tapMalformed h.tap then s.refuseRecord h .malformed else s.judgeRecord h bank := by
  rw [State.testRecord, State.judgingBank, if_pos ready, active]

theorem State.testRecord_notReady {s : State} (notReady : s.matcher.readiness ≠ .ready) (h : Handling) :
    s.testRecord h = s.refuseRecord h .notReady := by
  rw [State.testRecord, State.judgingBank, if_neg notReady]

theorem State.judgeRecord_unknown {s : State} {h : Handling} {bank : BankId}
    (unknown : stationCount (s.words bank) ≤ h.tap.station.toNat) : s.judgeRecord h bank =
      (s.capture .unknownStation h.source 0 h.tap.station.toNat).refuseRecord
        { h with judging := bank, lapsed := false } .unknownStation := by
  rw [State.judgeRecord]
  exact if_pos unknown

theorem State.judgeRecord_denied {s : State} {h : Handling} {bank : BankId}
    (known : h.tap.station.toNat < stationCount (s.words bank)) (onList : denied (s.words bank) h.tap.token = true) :
    s.judgeRecord h bank = s.refuseRecord { h with judging := bank, lapsed := false } .denied := by
  rw [State.judgeRecord]
  exact (if_neg (Nat.not_le.2 known)).trans (if_pos onList)

theorem State.judgeRecord_admitted {s : State} {h : Handling} {bank : BankId}
    (known : h.tap.station.toNat < stationCount (s.words bank)) (notDenied : denied (s.words bank) h.tap.token = false) :
    s.judgeRecord h bank = s.admitRecord
      (timeTest (s.words bank) s.clock.lineSeconds { h with judging := bank, lapsed := false }) := by
  rw [State.judgeRecord]
  exact (if_neg (Nat.not_le.2 known)).trans (if_neg (by simp [notDenied]))

/-- The deny list is asked for an entry in force that is the token (R16). -/
theorem denied_iff (m : WordMem) (token : Token) : denied m token = true ↔ ∃ i < denyCount m, denyToken m i = token := by
  simp [denied]

/-- The slots after an end with none reserved and none asked for stand where no request waits or no slot is free. -/
theorem State.matcherReturned_same {s : State} (request : s.slots.matcherRequest = .none)
    (kept : s.slots.matcherReserved = 0) (h : s.slots.sweeperRequest ≠ .waiting ∨ s.freeSlots = 0) :
    s.matcherReturned s.fau.jobs.length = s.slots := by
  have none : ¬(s.slots.sweeperRequest = .waiting ∧ s.fau.jobs.length + s.slots.sweeperReserved < 8) := by
    rintro ⟨waiting, room⟩
    rcases h with h | h
    · exact h waiting
    · simp only [State.freeSlots, Config.jobSlots, kept] at h
      omega
  cases hs : s.slots
  simp_all [State.matcherReturned]

/-- What a refused record leaves (R83, R84, R106). -/
theorem State.refuseRecord_begun {s : State} {f : FrameInWork} {rest : List TapRecord}
    (idle : s.matcher.work = .none) (request : s.slots.matcherRequest = .none) (kind : VerdictKind) (h : Handling)
    (origin : h.origin = .tap f.slot f.position f.source) :
    (s.beginRecord f rest).refuseRecord h kind = { s with
      station := s.station.withEntry f.slot f.position ⟨true, some kind, {}, 0, 65535⟩
      slots := s.matcherReturned s.fau.jobs.length
      matcher := { s.matcher with frame :=
        if rest = [] then none else some { f with remaining := rest, position := f.position + 1 } }
      responder := { s.responder with counters := { s.responder.counters with
        tapsTaken := s.responder.counters.tapsTaken + 1, tapsRefused := s.responder.counters.tapsRefused + 1 } } } := by
  rw [State.refuseRecord_eq (s.beginRecord f rest) h kind _ _ _ origin request]
  simp only [State.beginRecord, Matcher.recordEnded, idle, Option.map_some, Option.some.injEq]
  rfl

/-- Settles O23: by the first test that fails. -/
theorem refusedRecordsAreAnsweredAtOnce : Obligations.RefusedRecordsAreAnsweredAtOnce := by
  refine ⟨fun s f r rest idle frame next noAssist entry request => ?_, fun m token => denied_iff m token⟩
  intro refused
  have run := exec_tapRecord idle frame next noAssist
  have ends : ∀ (kind : VerdictKind) (u : State), exec .tapRecord s = .next u →
      u = { s with
        station := s.station.withEntry f.slot f.position ⟨true, some kind, {}, 0, 65535⟩
        slots := s.matcherReturned s.fau.jobs.length
        matcher := { s.matcher with frame :=
          if rest = [] then none else some { f with remaining := rest, position := f.position + 1 } }
        responder := { s.responder with
          fault :=
            if kind = .unknownStation then
              s.responder.fault.after .unknownStation s.clock.lineSeconds f.source 0 (r.station.setWidth 16)
            else s.responder.fault
          counters := { s.responder.counters with
            tapsTaken := s.responder.counters.tapsTaken + 1
            tapsRefused := s.responder.counters.tapsRefused + 1 } } } → refused kind := by
    rintro kind u runs rfl
    exact ⟨_, runs, rfl, State.verdictAt_withEntry s _ entry, fun kept free => State.matcherReturned_same request kept free⟩
  refine ⟨fun notReady => ?_, fun bank ready active => ⟨fun malformed => ?_, fun sound unknown => ?_,
    fun sound known onList => ?_⟩⟩
  · rw [State.testRecord_notReady (s := s.beginRecord f rest) notReady] at run
    refine ends _ _ run ?_
    rw [State.refuseRecord_begun idle request _ _ rfl]
    rfl
  · rw [State.testRecord_ready (s := s.beginRecord f rest) ready active, if_pos (show tapMalformed (f.handling r).tap = true from malformed)] at run
    refine ends _ _ run ?_
    rw [State.refuseRecord_begun idle request _ _ rfl]
    rfl
  · rw [State.testRecord_ready (s := s.beginRecord f rest) ready active,
      if_neg (by simp [FrameInWork.handling, sound]),
      State.judgeRecord_unknown (s := s.beginRecord f rest) (h := f.handling r) (bank := bank) unknown] at run
    refine ends _ _ run ?_
    have captured : ∀ n high low : Nat, ((s.beginRecord f rest).capture .unknownStation f.source n low) =
        (s.capture .unknownStation f.source n low).beginRecord f rest := fun _ _ _ => rfl
    have wide : BitVec.ofNat 16 r.station.toNat = r.station.setWidth 16 := BitVec.ofNat_toNat _ _
    rw [show (f.handling r).source = f.source from rfl, show (f.handling r).tap = r from rfl, captured 0 0,
      State.refuseRecord_begun (s := s.capture .unknownStation f.source 0 r.station.toNat) idle request _ _ rfl]
    rw [State.capture, FaultCapture.attempt_eq_after, wide, if_pos rfl]
    rfl
  · rw [State.testRecord_ready (s := s.beginRecord f rest) ready active,
      if_neg (by simp [FrameInWork.handling, sound]),
      State.judgeRecord_denied (s := s.beginRecord f rest) (h := f.handling r) (bank := bank) known onList] at run
    refine ends _ _ run ?_
    rw [State.refuseRecord_begun idle request _ _ rfl]
    rfl

theorem State.seekSlot_eq (s : State) (w : MatcherWork) :
    s.seekSlot w = { s with matcher := { s.matcher with work := w }, slots := s.matcherAsked } :=
  State.requestMatcherSlot_eq _

theorem timeTest_ahead {now : LineTime} {h : Handling} (ahead : now.toNat < h.tap.time.toNat) (m : WordMem) :
    timeTest m now h = { h with time := now, clamped := true, late := false } := if_pos ahead

theorem timeTest_past {now : LineTime} {h : Handling} (past : h.tap.time.toNat ≤ now.toNat) (m : WordMem) :
    timeTest m now h = { h with
      time := h.tap.time, clamped := false, late := decide (lateLimit m < now.toNat - h.tap.time.toNat) } :=
  if_neg (Nat.not_lt.2 past)

theorem timeTest_kept (m : WordMem) (now : LineTime) (h : Handling) : (timeTest m now h).origin = h.origin ∧
    (timeTest m now h).tap = h.tap ∧ (timeTest m now h).judging = h.judging ∧
    (timeTest m now h).lapsed = h.lapsed := by
  unfold timeTest
  split <;> exact ⟨rfl, rfl, rfl, rfl⟩

/-- Settles O24: the tap lies ahead of the clock, or not. -/
theorem admittedRecordsAskForASlot : Obligations.AdmittedRecordsAskForASlot := by
  intro s f r rest bank idle frame next noAssist ready active sound known notDenied kept
  have run := exec_tapRecord idle frame next noAssist
  rw [State.testRecord_ready (s := s.beginRecord f rest) ready active,
    if_neg (by simp [FrameInWork.handling, sound]),
    State.judgeRecord_admitted (s := s.beginRecord f rest) (h := f.handling r) (bank := bank) known notDenied, State.admitRecord,
    if_pos (show (s.beginRecord f rest).slots.matcherReserved = 0 from kept), State.seekSlot_eq] at run
  obtain ⟨origin, tap, judging, lapsed⟩ :=
    timeTest_kept (s.words bank) s.clock.lineSeconds { f.handling r with judging := bank, lapsed := false }
  refine ⟨_, _, run, rfl, origin, tap, judging, lapsed, fun ahead => ?_, fun past => ?_⟩
  · have test := timeTest_ahead (h := { f.handling r with judging := bank, lapsed := false }) ahead (s.words bank)
    exact ⟨congrArg Handling.time test, congrArg Handling.clamped test, congrArg Handling.late test⟩
  · have test := timeTest_past (h := { f.handling r with judging := bank, lapsed := false }) past (s.words bank)
    exact ⟨congrArg Handling.time test, congrArg Handling.clamped test,
      (Iff.of_eq (congrArg (fun h => h.late = true) test)).trans decide_eq_true_iff⟩

/-! ### Granted slots (R24, R91, R119, R124) -/

theorem State.seekHold_eq (s : State) (h : Handling) : s.seekHold h = { s with
    matcher := { s.matcher with work := .waitHold h }
    holds := { s.holds with matcher := s.holdGiven (s.bucketOf h.tap.token) } } := by
  rw [State.seekHold, State.requestHold_eq]
  rfl

theorem tokenFold_eq (t : Token) :
    (tokenFold t).toNat = ((t >>> 48) ^^^ (t >>> 32) ^^^ (t >>> 16) ^^^ t).toNat % 65536 := by
  have fold : tokenFold t = ((t >>> 48) ^^^ (t >>> 32) ^^^ (t >>> 16) ^^^ t).setWidth 16 := by
    unfold tokenFold
    ext i hi
    have inside : i < 64 := by omega
    simp [inside, BitVec.getLsbD_eq_getElem]
  rw [fold, BitVec.toNat_setWidth]

/-- Settles O25: by the requester. -/
theorem grantedSlotsSeekTheBucket : Obligations.GrantedSlotsSeekTheBucket := by
  refine ⟨fun s h granted => ?_, fun s granted => ⟨fun waits => ?_, fun pass => ?_⟩⟩
  · intro t b after
    have taken : s.takeSlot h = after := by
      have bucket : s.bucketOf t = b := by rw [State.bucketOf, tokenFold_eq]
      rw [State.takeSlot, State.seekHold_eq]
      simp only [State.bucketOf] at bucket ⊢
      rw [bucket]
      rfl
    rw [← taken]
    refine ⟨fun work => ?_, fun work => ?_⟩
    · have run : exec .reservationGranted s = execReservationGranted s := rfl
      rw [run, execReservationGranted, work, granted]
    · have run : exec .secondReservationGranted s = execSecondReservationGranted s := rfl
      rw [run, execSecondReservationGranted, work, granted]
  · have run : exec .sweeperSlotGranted s = execSweeperSlotGranted s := rfl
    rw [run, execSweeperSlotGranted, if_pos ⟨waits, granted⟩, State.requestHold_eq]
    rfl
  · have run : exec .startPassSlotGranted s = execStartPassSlotGranted s := rfl
    rw [run, execStartPassSlotGranted, if_pos ⟨pass, granted⟩, State.requestHold_eq]
    rfl

end Sys2Proof.Machine
end


section
/-!
The hold of a tap whose token has a record (R92 to R106): a closing part, a duplicate, an entry, an exit without an open
part, a failed claim; and an ASSIST EXIT (R107, R108).
-/
namespace Sys2Proof.Machine

open Sys2Proof

section TapHold

variable {s : State} {h : Handling} {b w slot position : Nat} {read : Reading} {source : Octet} {r : TokenRecord}

theorem exec_tapHoldGranted (work : s.matcher.work = .waitHold h) (held : s.holds.matcher = .held b read) :
    exec .tapHoldGranted s = .next (s.handleHold b h read.now) := by
  have run : exec .tapHoldGranted s = execTapHoldGranted s := rfl
  rw [run, execTapHoldGranted, work, held]

/-- A hold that ends in a wait changes the work and the holds alone. -/
theorem State.putsOff_of_exec {k : MatcherWork} (run : exec .tapHoldGranted s = .next (s.waitAfterHold b k)) :
    s.putsOff b k := by
  rw [State.waitAfterHold_eq] at run
  exact run

theorem State.putsOff_of_claimFails (run : exec .tapHoldGranted s = .next (s.claimFails b h)) :
    s.putsOff b (.rejudge h) := State.putsOff_of_exec run

theorem State.handleHold_closing (found : s.lookup b h.tap.token = some (w, r)) (closing : r.closing.isSome = true)
    (now : LineTime) : s.handleHold b h now = s.waitAfterHold b (.waitToken h) := by
  simp only [State.handleHold, found, closingFound, closing, if_true]

/-- A tap that finds its record is handled by the tests of the hold (R92, R94, R95). -/
theorem State.handleTap_finds (finds : s.tapFinds b h w r) (now : LineTime) (day : BitVec 16) :
    s.handleTap b h (some (w, r)) now day =
      if takenAsEntry h.tap.direction r.openPart.isSome then s.handleEntry b h (some (w, r)) now day
      else
        match r.openPart with
        | some o => s.exitOpen b w h r o now
        | none => s.exitNoOpen b h (some (w, r)) now day := by
  obtain ⟨-, -, notDuplicate, inUse⟩ := finds
  exact ((State.handleTap_found s b h w r now day).2 inUse).trans (if_neg (by simp [notDuplicate]))

theorem exec_tapHoldGranted_entry (hold : s.inTapHold b read h slot position source) (finds : s.tapFinds b h w r)
    (entry : h.tap.direction = 1 ∨ (h.tap.direction = 3 ∧ r.openPart = none)) :
    exec .tapHoldGranted s = .next (s.handleEntry b h (some (w, r)) read.now (dayOf read.now)) := by
  have taken : takenAsEntry h.tap.direction r.openPart.isSome = true := by
    rcases entry with entry | ⟨entry, noOpen⟩
    · simp [takenAsEntry, entry, directionEntry]
    · simp [takenAsEntry, entry, noOpen, directionEither]
  rw [exec_tapHoldGranted_found hold finds.1 finds.2.1, State.handleTap_finds finds, if_pos taken]

theorem exec_tapHoldGranted_exitNoOpen (hold : s.inTapHold b read h slot position source) (finds : s.tapFinds b h w r)
    (noOpen : r.openPart = none) (exits : h.tap.direction = 2) :
    exec .tapHoldGranted s = .next (s.exitNoOpen b h (some (w, r)) read.now (dayOf read.now)) := by
  rw [exec_tapHoldGranted_found hold finds.1 finds.2.1, State.handleTap_finds finds,
    if_neg (by simp [takenAsEntry, exits, directionEntry, directionEither]), noOpen]

theorem State.setVerdict_count (origin : h.origin = .tap slot position source) (u : State) (e : VerdictEntry)
    (f : Counters → Counters) : (u.setVerdict h e).count f = (u.count f).setVerdict h e := by
  simp only [State.setVerdict, origin, State.setEntry_eq]
  rfl

theorem State.tapEnds_of (hold : s.inTapHold b read h slot position source) {u : State} (e : VerdictEntry)
    (slots : u.slots.matcherRequest = s.slots.matcherRequest ∧ u.slots.sweeperRequest = s.slots.sweeperRequest ∧
      u.slots.sweeperReserved = s.slots.sweeperReserved)
    (blocks : u.station = s.station ∧ u.matcher = s.matcher ∧ u.holds = s.holds)
    (rest : u.responder.inWork = s.responder.inWork ∧ u.bucketCount = s.bucketCount ∧ u.clock = s.clock ∧
      u.fau.channels = s.fau.channels) :
    s.tapEnds ((u.setVerdict h e).finish b h) b slot position e := by
  obtain ⟨-, -, origin, claimed, noRequest⟩ := hold
  exact State.tapEnds_finish e origin claimed (slots.1.trans noRequest) blocks.1 blocks.2.1 blocks.2.2 rest.1 rest.2.1
    rest.2.2.1 rest.2.2.2 slots.2.1 slots.2.2

/-- The end of a tap record, as a change of `u`, the state that its parts leave (R106). -/
theorem State.ended_eq (hold : s.inTapHold b read h slot position source) {u : State} (e : VerdictEntry)
    (request : u.slots.matcherRequest = s.slots.matcherRequest) : (u.setVerdict h e).finish b h = { u with
      station := u.station.withEntry slot position e, holds := u.matcherReleased b
      slots := u.matcherReturned u.fau.jobs.length, matcher := u.matcher.recordEnded
      responder := { u.responder with counters := { u.responder.counters with
        tapsTaken := u.responder.counters.tapsTaken + 1 } } } := by
  obtain ⟨-, -, origin, -, noRequest⟩ := hold
  exact State.finish_setVerdict u b h e slot position source origin (request.trans noRequest)

/-- A way written in the hold: it reads back, and the others stand. -/
theorem State.way_ended (hold : s.inTapHold b read h slot position source) {u : State} (e : VerdictEntry)
    (request : u.slots.matcherRequest = s.slots.matcherRequest) {q : TokenRecord}
    (table : u.table = sparseSet s.table (wayKey b w) q) :
    ((u.setVerdict h e).finish b h).way b w = some q ∧ s.sameWaysBut ((u.setVerdict h e).finish b h) b w := by
  rw [State.ended_eq hold e request]
  refine ⟨?_, fun k other => ?_⟩
  · change sparseGet u.table _ = _
    rw [table]
    exact sparseGet_set_self _ _ _
  · change sparseGet u.table _ = _
    rw [table]
    exact sparseGet_set_ne _ _ other

/-! ### A closing part, a duplicate (R76, R92, R94) -/

theorem isDuplicate_of {l : Leg} {m : WordMem} (last : r.lastTap = some l) (station : l.station = h.tap.station)
    (gate : l.gate = h.tap.gate)
    (near : (h.time.toNat - l.time.toNat) + (l.time.toNat - h.time.toNat) < debounceWindow m) :
    isDuplicate m h r = true := by
  simp [isDuplicate, last, Handling.atLastTap, station, gate, absDiff, near]

end TapHold

/-- Settles O26: the record holds a closing part, or its last tap is repeated. -/
theorem closingPartsWaitAndDuplicatesTouchLittle : Obligations.ClosingPartsWaitAndDuplicatesTouchLittle := by
  refine ⟨fun s h b w read r work held found closing => State.putsOff_of_exec ?_,
    fun s h b slot position read source w r l hold inUse found noClosing last station gate near => ?_⟩
  · rw [exec_tapHoldGranted work held, State.handleHold_closing found closing]
  · have duplicate := isDuplicate_of last station gate near
    have ends : s.endDuplicate b w h r read.now =
        (((s.putWay b w (some { r with lastActivity := read.now })).count Counters.addDuplicate).setVerdict h
          (filledEntry .duplicate (markFlags h))).finish b h := by
      rw [State.endDuplicate, State.setVerdict_count hold.2.2.1]
    refine ⟨_, by rw [exec_tapHoldGranted_found hold found noClosing,
      (State.handleTap_found s b h w r _ _).2 fun _ => inUse, if_pos duplicate, ends], ?_, ?_⟩
    · rw [State.ended_eq (u := (s.putWay b w (some { r with lastActivity := read.now })).count Counters.addDuplicate)
        hold _ rfl]
      rfl
    · obtain ⟨way, others⟩ := State.way_ended (w := w) hold (q := { r with lastActivity := read.now })
        (u := (s.putWay b w (some { r with lastActivity := read.now })).count Counters.addDuplicate)
        (filledEntry .duplicate (markFlags h)) rfl rfl
      exact ⟨way, others, State.tapEnds_of hold _ ⟨rfl, rfl, rfl⟩ ⟨rfl, rfl, rfl⟩ ⟨rfl, rfl, rfl, rfl⟩⟩

/-! ### An entry (R93, R96 to R98) -/

section Entry

variable {s : State} {h : Handling} {b w slot position : Nat} {read : Reading} {source : Octet} {r : TokenRecord}

/-- The state in which an accepted entry by a token with a record is answered. -/
def State.entryMade (s : State) (b w : Nat) (h : Handling) (r : TokenRecord) (now : LineTime) : State :=
  match r.openPart with
  | some o =>
    ((s.makeRef h.judging).putWay b w (some { r.touch h now with
      closing := some (s.tagged (closeIncomplete o)), openPart := some h.newOpen })).submitMatcher
        ((s.tagged (closeIncomplete o)).job r.token)
  | none => (s.makeRef h.judging).putWay b w (some { r.touch h now with openPart := some h.newOpen })

theorem State.handleEntry_accepted (active : s.judgingActive h)
    (isOpen : openForEntry (s.words h.judging) h.tap.station.toNat = true) (now : LineTime) (day : BitVec 16) :
    s.handleEntry b h (some (w, r)) now day = ((s.entryMade b w h r now).setVerdict h
      (filledEntry .entered { markFlags h with previousClosed := r.openPart.isSome })).finish b h := by
  have judgeable : s.judgeable h ≠ false := by simp [(State.judgeable_iff s h).2 (State.judgingInUse_of_active active)]
  simp only [State.handleEntry, judgeable, isOpen, (State.claimHolds_iff s h).2 active, if_true, if_false,
    State.entryMade, Bool.true_eq_false]
  cases r.openPart with
  | some o =>
    simp only [State.enterAgain, State.tagged]
    rfl
  | none => rfl

theorem State.handleEntry_closed (inUse : s.judgingInUse h)
    (closed : openForEntry (s.words h.judging) h.tap.station.toNat = false) (found : Option (Nat × TokenRecord))
    (now : LineTime) (day : BitVec 16) : s.handleEntry b h found now day = s.endClosed b h found now := by
  have judgeable : s.judgeable h ≠ false := by simp [(State.judgeable_iff s h).2 inUse]
  simp only [State.handleEntry, judgeable, closed, if_true, Bool.true_eq_false, if_false]

theorem State.endClosed_found (origin : h.origin = .tap slot position source) (now : LineTime) :
    s.endClosed b h (some (w, r)) now = (((s.putWay b w (some (r.touch h now))).count Counters.addRefused).setVerdict h
      (filledEntry .stationClosed (markFlags h))).finish b h := by
  simp only [State.endClosed]
  rw [State.setVerdict_count origin]

end Entry

/-- Settles O27: the entry is accepted, with an open part found or not, or the station is closed. -/
theorem entryOpensAJourney : Obligations.EntryOpensAJourney := by
  intro s h b slot position read source w r hold finds entry touched opened closed
  have run := exec_tapHoldGranted_entry hold finds entry
  refine ⟨fun isOpen active => ?_, fun inUse shut => ?_⟩
  · rw [State.handleEntry_accepted active isOpen] at run
    refine ⟨_, run, ?_⟩
    generalize made : s.entryMade b w h r read.now = u
    have slots : u.slots.matcherRequest = s.slots.matcherRequest ∧ u.slots.sweeperRequest = s.slots.sweeperRequest ∧
        u.slots.sweeperReserved = s.slots.sweeperReserved := by
      rw [← made, State.entryMade]
      cases r.openPart <;> exact ⟨rfl, rfl, rfl⟩
    have only : u = { s with table := u.table, store := u.store, slots := u.slots, fau := u.fau } ∧
        u.fau.channels = s.fau.channels := by
      rw [← made, State.entryMade]
      cases r.openPart <;> exact ⟨rfl, rfl⟩
    have banks : u.bank = (s.makeRef h.judging).bank := by
      rw [← made, State.entryMade]
      cases r.openPart <;> rfl
    have ended := State.ended_eq (b := b) hold
      (filledEntry .entered { markFlags h with previousClosed := r.openPart.isSome }) slots.1
    have bankOf : ∀ k, (((u.setVerdict h (filledEntry .entered
        { markFlags h with previousClosed := r.openPart.isSome })).finish b h).bank k) = (s.makeRef h.judging).bank k := by
      intro k
      rw [ended, ← banks]
      rfl
    have fau : ((u.setVerdict h (filledEntry .entered
        { markFlags h with previousClosed := r.openPart.isSome })).finish b h).fau = u.fau := by rw [ended]
    obtain ⟨q, table, isRecord⟩ : ∃ q, u.table = sparseSet s.table (wayKey b w) q ∧
        ((r.openPart = none → q = { touched with openPart := some opened } ∧ u.fau = s.fau) ∧
        ∀ o, r.openPart = some o → q = { touched with openPart := some opened, closing := some (closed o) } ∧
          u.fau = { s.fau with
            tag := s.fau.tag + 1
            jobs := s.fau.jobs ++ [{ journey := .incomplete o.entry, tag := s.fau.tag, token := r.token
                                     bank := o.bank, cls := o.cls, ref := .none, flags := (closed o).flags }] }) := by
      rw [← made, State.entryMade]
      cases r.openPart with
      | none => exact ⟨_, rfl, fun _ => ⟨rfl, by simp⟩, nofun⟩
      | some o => exact ⟨_, rfl, nofun, fun _ same => by cases same; exact ⟨rfl, by simp; rfl⟩⟩
    obtain ⟨way, others⟩ := State.way_ended hold
      (filledEntry .entered { markFlags h with previousClosed := r.openPart.isSome }) slots.1 table
    refine ⟨?_, fun noOpen => ?_, fun o isOpen => ?_, others, ?_, ?_, ?_⟩
    · rw [ended, only.1]
    · rw [way, fau, (isRecord.1 noOpen).1]
      exact ⟨rfl, (isRecord.1 noOpen).2⟩
    · rw [way, fau, (isRecord.2 o isOpen).1]
      exact ⟨rfl, (isRecord.2 o isOpen).2⟩
    · rw [bankOf, State.bank_makeRef_self]
    · rw [bankOf, State.bank_makeRef_other]
    · refine State.tapEnds_of hold _ slots ?_ ?_
      · rw [only.1]
        exact ⟨rfl, rfl, rfl⟩
      · refine ⟨?_, ?_, ?_, only.2⟩ <;> rw [only.1]
  · rw [State.handleEntry_closed inUse shut, State.endClosed_found hold.2.2.1] at run
    obtain ⟨way, others⟩ := State.way_ended (w := w) hold (q := touched)
      (u := (s.putWay b w (some touched)).count Counters.addRefused)
      (filledEntry .stationClosed (markFlags h)) rfl rfl
    refine ⟨_, run, ?_, way, others,
      State.tapEnds_of hold _ ⟨rfl, rfl, rfl⟩ ⟨rfl, rfl, rfl⟩ ⟨rfl, rfl, rfl, rfl⟩⟩
    rw [State.ended_eq (u := (s.putWay b w (some (r.touch h read.now))).count Counters.addRefused) hold _ rfl]
    rfl

/-! ### An exit without an open part (R93, R102 to R104) -/

section ExitWithoutAJourney

variable {s : State} {h : Handling} {b w slot position : Nat} {read : Reading} {source : Octet} {r : TokenRecord}

/-- The state in which a tap is answered whose closing part joins a record: the record is `q` with the part, and the
part's job is submitted with the same tag (R27). -/
def State.closingMade (s : State) (b w : Nat) (q : TokenRecord) (c : ClosingPart) : State :=
  (s.putWay b w (some { q with closing := some (s.tagged c) })).submitMatcher ((s.tagged c).job q.token)

theorem State.exitCorrection_eq (p : RecentPart) (now : LineTime) : s.exitCorrection b w h r p now =
    ((s.closingMade b w { r.touch h now with recent := none } (closeCorrection h p)).setVerdict h
      (waitingEntry .corrected (h.exitVerdict p.entry))).finish b h := rfl

theorem State.exitUnmatched_eq (now : LineTime) : s.exitUnmatched b w h r now =
    ((s.closingMade b w (r.touch h now) (closeUnmatched h)).setVerdict h
      (waitingEntry .unmatched (markFlags h))).finish b h := rfl

theorem recentUsable_iff {m : WordMem} {now : LineTime} {p : RecentPart} : recentUsable m now p = true ↔
    serviceDay p.expiryTime = serviceDay now ∧ now.toNat - p.expiryTime.toNat ≤ correctionWindow m := by
  simp [recentUsable, ageOf]

/-- With no usable recent-expiry part an exit without an open part is unmatched, where its bank claim holds (R102,
R104). -/
theorem State.exitNoOpen_unusable (unusable : ∀ p, r.recent = some p →
      ¬(serviceDay p.expiryTime = serviceDay read.now ∧
        read.now.toNat - p.expiryTime.toNat ≤ correctionWindow (s.words p.bank))) (day : BitVec 16) :
    s.exitNoOpen b h (some (w, r)) read.now day =
      if s.claimHolds h then (s.makeRef h.judging).exitUnmatched b w h r read.now else s.claimFails b h := by
  cases recent : r.recent with
  | none => simp only [State.exitNoOpen, recent]
  | some p =>
    have no : recentUsable (s.words p.bank) read.now p = false := by
      rw [← Bool.not_eq_true, recentUsable_iff]
      exact unusable p recent
    simp only [State.exitNoOpen, recent, no, Bool.false_eq_true, if_false]

theorem State.exitNoOpen_usable {p : RecentPart} (recent : r.recent = some p)
    (usable : serviceDay p.expiryTime = serviceDay read.now ∧
      read.now.toNat - p.expiryTime.toNat ≤ correctionWindow (s.words p.bank)) (day : BitVec 16) :
    s.exitNoOpen b h (some (w, r)) read.now day = s.exitCorrection b w h r p read.now := by
  simp only [State.exitNoOpen, recent, recentUsable_iff.2 usable, if_true]

end ExitWithoutAJourney

/-- Settles O29: the recent-expiry part is usable, or not. -/
theorem exitWithoutAJourneyCorrectsOrIsUnmatched : Obligations.ExitWithoutAJourneyCorrectsOrIsUnmatched := by
  intro s h b slot position read source w r hold finds noOpen exits now usable touched closes
  have run := exec_tapHoldGranted_exitNoOpen hold finds noOpen exits
  have ref := Handling.ref_of_inTapHold hold
  refine ⟨fun p recent isUsable => ?_, fun unusable active => ?_⟩
  · rw [State.exitNoOpen_usable recent isUsable, State.exitCorrection_eq] at run
    have ended := State.ended_eq (b := b) hold (u := s.closingMade b w
      { r.touch h read.now with recent := none } (closeCorrection h p))
      (waitingEntry .corrected (h.exitVerdict p.entry)) rfl
    obtain ⟨way, others⟩ := State.way_ended hold (u := s.closingMade b w
      { r.touch h read.now with recent := none } (closeCorrection h p))
      (waitingEntry .corrected (h.exitVerdict p.entry)) rfl rfl
    have part : s.tagged (closeCorrection h p) =
        { journey := .correction p.entry ⟨h.tap.station, h.tap.gate,
            if h.time.toNat < p.entry.time.toNat then p.entry.time else h.time⟩ p.charged
          tag := s.fau.tag, bank := p.bank, cls := p.cls, ref := .verdict slot position
          flags := { exitClamped := h.clamped, late := h.late
                     exitBeforeEntry := decide (h.time.toNat < p.entry.time.toNat) } } := by
      rw [State.tagged, closeCorrection, Handling.exitLeg_eq, ref]
      rfl
    refine ⟨_, by rw [ended]; rfl, run, ?_, ?_, others, _,
      State.tapEnds_of hold _ ⟨rfl, rfl, rfl⟩ ⟨rfl, rfl, rfl⟩ ⟨rfl, rfl, rfl, rfl⟩, rfl, rfl, rfl⟩
    · rw [ended]
      simp only [State.closingMade, part]
      rfl
    · rw [way, part]
      rfl
  · rw [State.exitNoOpen_unusable unusable, if_pos ((State.claimHolds_iff s h).2 active),
      State.exitUnmatched_eq] at run
    have ended := State.ended_eq (b := b) hold (u := (s.makeRef h.judging).closingMade b w
      (r.touch h read.now) (closeUnmatched h)) (waitingEntry .unmatched (markFlags h)) rfl
    obtain ⟨way, others⟩ := State.way_ended hold (u := (s.makeRef h.judging).closingMade b w
      (r.touch h read.now) (closeUnmatched h)) (waitingEntry .unmatched (markFlags h)) rfl rfl
    have part : (s.makeRef h.judging).tagged (closeUnmatched h) =
        { journey := .unmatched ⟨h.tap.station, h.tap.gate, h.time⟩
          tag := s.fau.tag, bank := h.judging, cls := h.tap.cls, ref := .verdict slot position
          flags := { exitClamped := h.clamped, late := h.late } } := by
      rw [State.tagged, closeUnmatched, ref]
      rfl
    refine ⟨_, ?_, ?_, run, ?_, ?_, others, _,
      State.tapEnds_of hold _ ⟨rfl, rfl, rfl⟩ ⟨rfl, rfl, rfl⟩ ⟨rfl, rfl, rfl, rfl⟩, rfl, rfl, rfl⟩
    · rw [ended]
      exact State.bank_makeRef_self s h.judging
    · rw [ended]
      exact State.bank_makeRef_other s h.judging
    · rw [ended]
      simp only [State.closingMade, part]
      rfl
    · rw [way, part]
      rfl

/-! ### A failed claim (R93; logs 17, 29 to 31) -/

/-- The record begun again with its time tested afresh (R90). -/
theorem timeTest_eq (m : WordMem) (now : LineTime) (h : Handling) (bank : BankId) :
    timeTest m now { h with judging := bank, lapsed := false } =
      if now.toNat < h.tap.time.toNat then
        { h with judging := bank, lapsed := false, time := now, clamped := true, late := false }
      else { h with
        judging := bank, lapsed := false, time := h.tap.time, clamped := false
        late := decide (lateLimit m < now.toNat - h.tap.time.toNat) } := rfl

theorem State.handleEntry_fails {s : State} {h : Handling} {b w : Nat} {r : TokenRecord}
    (inactive : ¬s.judgingActive h)
    (opens : ¬s.judgingInUse h ∨ openForEntry (s.words h.judging) h.tap.station.toNat = true) (now : LineTime)
    (day : BitVec 16) : s.handleEntry b h (some (w, r)) now day = s.claimFails b h := by
  have fails : s.claimHolds h = false := by simpa using mt (State.claimHolds_iff s h).1 inactive
  rw [State.handleEntry]
  split
  · rfl
  · next inUse =>
    have inUse : s.judgingInUse h := (State.judgeable_iff s h).1 (by simpa using inUse)
    have isOpen := opens.resolve_left (not_not.2 inUse)
    simp [isOpen, fails]

/-- Settles O33: by the test that fails in the hold, and by the tests of the record begun again. -/
theorem failedClaimBeginsTheRecordAgain : Obligations.FailedClaimBeginsTheRecordAgain := by
  refine ⟨fun s h b slot position read source w r hold finds inactive why => State.putsOff_of_claimFails ?_,
    fun s h b slot position read source w r hold found noClosing repeats notInUse => State.putsOff_of_claimFails ?_,
    fun s h bank slot position source work active origin entry request kept => ?_⟩
  · rcases why with ⟨isEntry, opens⟩ | ⟨exits, noOpen, unusable⟩
    · rw [exec_tapHoldGranted_entry hold finds isEntry, State.handleEntry_fails inactive opens]
    · rw [exec_tapHoldGranted_exitNoOpen hold finds noOpen exits, State.exitNoOpen_unusable unusable,
        if_neg (mt (State.claimHolds_iff s h).1 inactive)]
  · rw [exec_tapHoldGranted_found hold found noClosing, (State.handleTap_found s b h w r _ _).1 repeats notInUse]
  · intro m now again refused
    have run := exec_tapRecord_rejudge work active
    refine ⟨fun unknown => ?_, fun known onList => ?_, fun known notDenied => ?_⟩
    · rw [State.judgeRecord_unknown unknown, State.refuseRecord_eq
        (s.capture .unknownStation h.source 0 h.tap.station.toNat) { h with judging := bank, lapsed := false } _ slot
        position source origin request] at run
      refine ⟨_, run, ?_, State.verdictAt_withEntry s _ entry⟩
      have wide : BitVec.ofNat 16 h.tap.station.toNat = h.tap.station.setWidth 16 := BitVec.ofNat_toNat _ _
      have from_ : h.source = source := by rw [Handling.source, origin]
      rw [State.capture, FaultCapture.attempt_eq_after, wide, from_, if_pos rfl]
      rfl
    · rw [State.judgeRecord_denied known onList, State.refuseRecord_eq s { h with judging := bank, lapsed := false } _ slot
        position source origin request] at run
      exact ⟨_, run, rfl, State.verdictAt_withEntry s _ entry⟩
    · rw [run, State.judgeRecord_admitted known notDenied, State.admitRecord, if_neg (Nat.ne_of_gt kept),
        State.seekHold_eq, (timeTest_kept _ _ _).2.1, timeTest_eq]

/-! ### An ASSIST EXIT (R107, R108) -/

theorem exec_assistExitTaken {s : State} {token : Token} {station gate : Octet} {entry : Nat}
    (idle : s.matcher.work = .none) (handed : s.responder.inWork = some (.assistHanded token station gate entry)) :
    exec .assistExitTaken s = .next (s.takeAssist token station gate entry) := by
  have run : exec .assistExitTaken s = execAssistExitTaken s := rfl
  rw [run, execAssistExitTaken, idle, handed]

theorem State.fillReply_eq (s : State) {i : Nat} {r : ReplyEntry} (x : Status) (d : List Octet)
    (named : s.office.replies[i]? = some r) : s.fillReply i x d = { s with office := { s.office with
      replies := s.office.replies.set i { r with state := .ready, status := x, data := d }
      readyReplies := s.office.readyReplies ++ [i] } } := by
  rw [← State.office_fillReply s x d named]
  rfl

theorem State.takeAssist_ready {s : State} {bank : BankId} (ready : s.matcher.readiness = .ready)
    (active : s.activeBank = some bank) (token : Token) (station gate : Octet) (entry : Nat) :
    s.takeAssist token station gate entry =
      if token = 0 ∨ stationCount (s.words bank) ≤ station.toNat then s.answerAssist entry .badArgument
      else
        ({ s with responder := { s.responder with inWork := some (.assistTaken entry) } } : State).seekSlot
          (.waitReservation (assistHandling token station gate entry bank s.clock.lineSeconds)) := by
  rw [State.takeAssist, State.judgingBank, if_pos ready, active]

/-- An ASSIST EXIT in the hold whose token has no open part is answered NOT_FOUND (R108). -/
theorem State.handleHold_assist_notFound {s : State} {h : Handling} {b entry : Nat} (origin : h.origin = .assist entry)
    (none : ∀ w r, s.lookup b h.tap.token = some (w, r) → r.closing = none ∧ r.openPart = none) (now : LineTime) :
    s.handleHold b h now = (s.fillReply entry .notFound []).finish b h := by
  cases found : s.lookup b h.tap.token with
  | none =>
    simp only [State.handleHold, found, closingFound, origin, State.handleAssist, Bool.false_eq_true, if_false]
  | some e =>
    obtain ⟨w, r⟩ := e
    obtain ⟨noClosing, noOpen⟩ := none w r found
    simp only [State.handleHold, found, closingFound, noClosing, Option.isSome_none, origin, State.handleAssist, noOpen,
      Bool.false_eq_true, if_false]

theorem State.handleHold_assist_open {s : State} {h : Handling} {b entry w : Nat} {r : TokenRecord} {o : OpenPart}
    (origin : h.origin = .assist entry) (found : s.lookup b h.tap.token = some (w, r)) (noClosing : r.closing = none)
    (isOpen : r.openPart = some o) (now : LineTime) :
    s.handleHold b h now =
      s.closeOpen b w h { r with lastActivity := now } (closeAssisted h o) (waitingEntry .exited {}) := by
  simp only [State.handleHold, found, closingFound, noClosing, Option.isSome_none, origin, State.handleAssist, isOpen,
    Bool.false_eq_true, if_false]

/-- Settles O30: by the early tests, and by whether the record in the hold has an open part. -/
theorem assistExitIsHandledByTheMatcher : Obligations.AssistExitIsHandledByTheMatcher := by
  refine ⟨fun s token station gate entry r idle handed named => ?_,
    fun s h b entry read e work held origin named request => ⟨fun none => ?_, fun w r o found noClosing isOpen => ?_⟩⟩
  · intro answered
    have run := exec_assistExitTaken idle handed
    have answers : ∀ status, s.answerAssist entry status = answered status := fun status => by
      rw [State.answerAssist, State.fillReply_eq s _ _ named]
    refine ⟨fun notReady => ?_, fun bank ready active bad => ?_, fun bank ready active real known => ?_⟩
    · rw [run, State.takeAssist, State.judgingBank, if_neg notReady]
      exact congrArg _ (answers _)
    · rw [run, State.takeAssist_ready ready active, if_pos bad, answers]
    · rw [State.takeAssist_ready ready active, if_neg (by rintro (h | h) <;> [exact real h; omega]),
        State.seekSlot_eq] at run
      exact ⟨_, _, run, rfl, rfl, rfl, rfl, rfl, rfl, rfl, rfl, rfl, rfl⟩
  · rw [exec_tapHoldGranted work held, State.handleHold_assist_notFound origin none,
      State.finish_assist (s.fillReply entry .notFound []) b entry h origin request, State.fillReply_eq s _ _ named]
    rfl
  · have run := exec_tapHoldGranted work held
    rw [State.handleHold_assist_open origin found noClosing isOpen] at run
    have part : s.tagged (closeAssisted h o) =
        { journey := .complete o.entry ⟨h.tap.station, h.tap.gate,
            if h.time.toNat < o.entry.time.toNat then o.entry.time else h.time⟩
          tag := s.fau.tag, bank := o.bank, cls := o.cls, ref := .reply entry
          flags := { entryClamped := o.timeClamped, exitClamped := h.clamped, late := o.late || h.late
                     exitBeforeEntry := decide (h.time.toNat < o.entry.time.toNat), assisted := true } } := by
      rw [State.tagged, closeAssisted, closeComplete, entryFlags_union_exitFlags, Handling.exitLeg_eq, Handling.ref,
        origin]
      rfl
    have ended : s.closeOpen b w h { r with lastActivity := read.now } (closeAssisted h o) (waitingEntry .exited {}) =
        (((s.putWay b w (some { r with
            lastActivity := read.now, closing := some (s.tagged (closeAssisted h o)), openPart := none })).submitMatcher
          ((s.tagged (closeAssisted h o)).job r.token))).finish b h := by
      simp only [State.closeOpen, State.setVerdict, origin]
    rw [ended, State.finish_assist _ b entry h origin (by exact request), part] at run
    refine ⟨_, run, ?_, sparseGet_set_self _ _ _, fun k other => sparseGet_set_ne _ _ other⟩
    simp [State.submitMatcher, State.submit, State.putWay, ClosingPart.job, State.matcherReturned]
    rfl

end Sys2Proof.Machine
end


section
/-!
The choice of way at an insertion (Table 4-4), and the hold of a tap whose token has no record (R68 to R70, R98, R104).
-/
namespace Sys2Proof.Machine

open Sys2Proof

/-! ### The choice of way (R68 to R70, Table 4-4) -/

/-- The oldest of a list comes before the others of its key, and no key lies below its own. -/
theorem oldest_split {α : Type} {key : α → Nat} : ∀ {l : List α} {x : α}, oldest key l = some x →
    ∃ before after, l = before ++ x :: after ∧ (∀ y ∈ before, key x < key y) ∧ ∀ y ∈ after, key x ≤ key y
  | [], _, h => by cases h
  | z :: zs, x, h => by
    rw [oldest] at h
    cases first : oldest key zs with
    | none =>
      rw [first] at h
      cases h
      cases zs with
      | nil => exact ⟨[], [], rfl, nofun, nofun⟩
      | cons y ys =>
        rw [oldest] at first
        split at first
        · cases first
        · split at first <;> cases first
    | some y =>
      obtain ⟨before, after, rfl, lower, upper⟩ := oldest_split first
      rw [first] at h
      dsimp only at h
      split at h
      · next less =>
        cases h
        refine ⟨z :: before, after, rfl, fun v hv => ?_, upper⟩
        rcases List.mem_cons.1 hv with rfl | hv
        · exact less
        · exact lower v hv
      · next notLess =>
        cases h
        refine ⟨[], before ++ y :: after, rfl, nofun, fun v hv => ?_⟩
        have least : key z ≤ key y := Nat.le_of_not_lt notLess
        rcases List.mem_append.1 hv with hv | hv
        · exact least.trans (lower v hv).le
        · rcases List.mem_cons.1 hv with rfl | hv
          · exact least
          · exact least.trans (upper v hv)

theorem oldest_none {α : Type} {key : α → Nat} {l : List α} (h : oldest key l = none) : l = [] := by
  cases l with
  | nil => rfl
  | cons x xs =>
    rw [oldest] at h
    split at h
    · cases h
    · split at h <;> cases h

/-- In a list whose elements rise in `place`, the oldest has the least key, and of equal keys the least place. -/
theorem oldest_least {α : Type} {key place : α → Nat} {l : List α} {x : α} (h : oldest key l = some x)
    (rising : l.Pairwise fun a c => place a < place c) :
    ∀ y ∈ l, key x < key y ∨ (key x = key y ∧ place x ≤ place y) := by
  obtain ⟨before, after, rfl, lower, upper⟩ := oldest_split h
  obtain ⟨-, tail, -⟩ := List.pairwise_append.1 rising
  intro y hy
  rcases List.mem_append.1 hy with hy | hy
  · exact .inl (lower y hy)
  · rcases List.mem_cons.1 hy with rfl | hy
    · exact .inr ⟨rfl, le_rfl⟩
    · rcases (upper y hy).lt_or_eq with less | same
      · exact .inl less
      · exact .inr ⟨same, ((List.pairwise_cons.1 tail).1 y hy).le⟩

theorem State.occupied_rising (s : State) (b : Nat) : (s.occupied b).Pairwise fun a c => a.1 < c.1 := by
  rw [State.occupied, List.pairwise_filterMap]
  refine List.pairwise_lt_range.imp fun less x hx y hy => ?_
  simp only [Option.map_eq_some_iff] at hx hy
  obtain ⟨_, -, rfl⟩ := hx
  obtain ⟨_, -, rfl⟩ := hy
  exact less

/-- The record may be evicted: it has no open and no closing part (R68). -/
def evictable (e : Nat × TokenRecord) : Bool := e.2.openPart.isNone && e.2.closing.isNone

theorem State.mem_evictable {s : State} {b : Nat} {e : Nat × TokenRecord} : e ∈ (s.occupied b).filter evictable ↔
    e.1 < 8 ∧ s.way b e.1 = some e.2 ∧ e.2.openPart = none ∧ e.2.closing = none := by
  simp [List.mem_filter, State.mem_occupied, evictable, and_assoc]

/-- The record with its open part, where it may be displaced: it has an open and no closing part (R69). -/
def displaceable (e : Nat × TokenRecord) : Option (Nat × TokenRecord × OpenPart) :=
  match e.2.openPart with
  | some o => if e.2.closing.isNone then some (e.1, e.2, o) else none
  | none => none

theorem displaceable_eq_some {e : Nat × TokenRecord} {d : Nat × TokenRecord × OpenPart} :
    displaceable e = some d ↔ e = (d.1, d.2.1) ∧ e.2.openPart = some d.2.2 ∧ e.2.closing = none := by
  obtain ⟨w, r⟩ := e
  obtain ⟨v, q, p⟩ := d
  unfold displaceable
  cases isOpen : r.openPart with
  | none =>
    simp only [reduceCtorEq, false_iff]
    rintro ⟨same, held, -⟩
    obtain ⟨rfl, rfl⟩ := Prod.mk.inj same
    simp_all
  | some o =>
    cases closing : r.closing <;> simp [and_assoc]

theorem State.mem_displaceable {s : State} {b : Nat} {d : Nat × TokenRecord × OpenPart} :
    d ∈ (s.occupied b).filterMap displaceable ↔
      d.1 < 8 ∧ s.way b d.1 = some d.2.1 ∧ d.2.1.openPart = some d.2.2 ∧ d.2.1.closing = none := by
  simp only [List.mem_filterMap, displaceable_eq_some, State.mem_occupied]
  constructor
  · rintro ⟨_, ⟨inside, record⟩, rfl, isOpen, closing⟩
    exact ⟨inside, record, isOpen, closing⟩
  · rintro ⟨inside, record, isOpen, closing⟩
    exact ⟨_, ⟨inside, record⟩, rfl, isOpen, closing⟩

theorem State.displaceable_rising (s : State) (b : Nat) :
    ((s.occupied b).filterMap displaceable).Pairwise fun a c => a.1 < c.1 := by
  rw [List.pairwise_filterMap]
  refine (s.occupied_rising b).imp fun less x hx y hy => ?_
  rw [displaceable_eq_some] at hx hy
  rw [hx.1, hy.1] at less
  exact less

theorem State.evictionWay_eq (s : State) (b : Nat) :
    s.evictionWay b = oldest (fun e => e.2.lastActivity.toNat) ((s.occupied b).filter evictable) := rfl

theorem State.displacementWay_eq (s : State) (b : Nat) : s.displacementWay b =
    oldest (fun e => e.2.2.entry.time.toNat) ((s.occupied b).filterMap displaceable) := rfl

/-- A way takes an insertion without a loss: it is empty or its record is stale (R68, R71). -/
def State.takes? (s : State) (b : Nat) (day : BitVec 16) (w : Nat) : Bool :=
  match s.way b w with
  | some r => r.stale day
  | none => true

theorem State.takes?_iff {s : State} {b w : Nat} {day : BitVec 16} : s.takes? b day w = true ↔
    s.way b w = none ∨ ∃ r, s.way b w = some r ∧ r.stale day = true := by
  unfold State.takes?
  split <;> simp_all

theorem State.freeWay_eq (s : State) (b : Nat) (day : BitVec 16) :
    s.freeWay b day = (List.range 8).find? (s.takes? b day) := rfl

theorem State.freeWay_least {s : State} {b w : Nat} {day : BitVec 16} (h : s.freeWay b day = some w) :
    w < 8 ∧ s.takes? b day w = true ∧ ∀ v < w, ¬s.takes? b day v = true := by
  rw [State.freeWay_eq, List.find?_range_eq_some] at h
  obtain ⟨takes, inside, first⟩ := h
  exact ⟨List.mem_range.1 inside, takes, fun v less => by simpa using first v less⟩

theorem State.freeWay_none {s : State} {b : Nat} {day : BitVec 16} (h : s.freeWay b day = none) :
    ∀ v < 8, ¬s.takes? b day v = true := by
  rw [State.freeWay_eq, List.find?_eq_none] at h
  exact fun v inside => h v (List.mem_range.2 inside)

/-- Settles O34: by the four orders of Table 4-4. -/
theorem insertionTakesTheWayOfTheTable : Obligations.InsertionTakesTheWayOfTheTable := by
  intro s b day usable evictableWay displaceableWay
  rw [State.placement]
  cases free : s.freeWay b day with
  | some w =>
    obtain ⟨inside, takes, first⟩ := State.freeWay_least free
    exact ⟨inside, State.takes?_iff.1 takes, fun v less => mt State.takes?_iff.2 (first v less)⟩
  | none =>
    have noWay : ∀ v < 8, ¬usable v := fun v inside => mt State.takes?_iff.2 (State.freeWay_none free v inside)
    cases evict : s.evictionWay b with
    | some e =>
      rw [State.evictionWay_eq] at evict
      refine ⟨noWay, State.mem_evictable.1 (oldest_mem _ evict), fun v q hq => ?_⟩
      exact oldest_least evict ((s.occupied_rising b).filter _) (v, q) (State.mem_evictable.2 hq)
    | none =>
      rw [State.evictionWay_eq] at evict
      have noEviction : ∀ v q, ¬evictableWay v q := fun v q hq => by
        have inList : (v, q) ∈ (s.occupied b).filter evictable := State.mem_evictable.2 hq
        rw [oldest_none evict] at inList
        cases inList
      cases displace : s.displacementWay b with
      | some d =>
        rw [State.displacementWay_eq] at displace
        refine ⟨noWay, noEviction, State.mem_displaceable.1 (oldest_mem _ displace), fun v q p hp => ?_⟩
        exact oldest_least displace (s.displaceable_rising b) (v, q, p) (State.mem_displaceable.2 hp)
      | none =>
        rw [State.displacementWay_eq] at displace
        refine ⟨noWay, noEviction, fun v q p hp => ?_⟩
        have inList : (v, q, p) ∈ (s.occupied b).filterMap displaceable := State.mem_displaceable.2 hp
        rw [oldest_none displace] at inList
        cases inList

/-! ### An insertion (R68, R69, R93) -/

section Insertion

variable {s : State} {h : Handling} {b slot position : Nat} {read : Reading} {source : Octet}

theorem exec_tapHoldGranted_absent (hold : s.inTapHold b read h slot position source)
    (absent : s.lookup b h.tap.token = none) : exec .tapHoldGranted s = .next
      (if takenAsEntry h.tap.direction false then s.handleEntry b h none read.now (dayOf read.now)
      else s.exitNew b h read.now (dayOf read.now)) := by
  obtain ⟨work, held, origin, -, -⟩ := hold
  rw [exec_tapHoldGranted work held]
  simp only [State.handleHold, absent, closingFound, origin, State.handleTap, State.exitNoOpen, Bool.false_eq_true,
    if_false]

theorem State.sweeperSlots_vacate (s : State) (b : Nat) (h : Handling) (p : Placement) :
    (s.vacate b h p).slots.sweeperRequest = s.slots.sweeperRequest ∧
      (s.vacate b h p).slots.sweeperReserved = s.slots.sweeperReserved := by
  cases p <;> simp [State.vacate, State.submitMatcher]

theorem State.insertionBanks_congr {t u : State} {p : Placement} {k : BankId} (same : t.store = u.store)
    (banks : s.insertionBanks u p k) : s.insertionBanks t p k := by
  have bank : ∀ j, t.bank j = u.bank j := fun j => by rw [State.bank, same]; rfl
  obtain ⟨only, each⟩ := banks
  exact ⟨by rw [same]; exact only, fun j => by rw [bank]; exact each j⟩

theorem State.tapsTaken_insertionSeen (s : State) (b : Nat) (p : Placement) (source : Octet) :
    (s.insertionSeen b p source).counters.tapsTaken = s.responder.counters.tapsTaken + 1 := by
  cases p <;> rfl

theorem State.insertionSeen_counted (s : State) (b : Nat) (p : Placement) (source : Octet) :
    { s.insertionSeen b p source with counters :=
      { (s.insertionSeen b p source).counters with tapsTaken := s.responder.counters.tapsTaken + 1 } } =
      s.insertionSeen b p source := by
  rw [← State.tapsTaken_insertionSeen s b p source]

theorem State.inWork_insertionSeen (s : State) (b : Nat) (p : Placement) (source : Octet) :
    (s.insertionSeen b p source).inWork = s.responder.inWork := by
  cases p <;> rfl

/-- The state in which what the way held has made room for a new record whose part names the judging bank. -/
def State.roomMade (s : State) (b : Nat) (h : Handling) (p : Placement) : State := (s.makeRef h.judging).vacate b h p

/-- Making room: the banks, the Matcher's slots, the Responder's counters and the DISPLACED job alone. -/
theorem State.roomMade_only (origin : h.origin = .tap slot position source) (p : Placement) : s.roomMade b h p = { s with
    store := (s.roomMade b h p).store, slots := (s.roomMade b h p).slots
    responder := { s.insertionSeen b p source with counters :=
      { (s.insertionSeen b p source).counters with tapsTaken := s.responder.counters.tapsTaken } }
    fau := { s.fau with
      tag := s.fau.tag + BitVec.ofNat 16 (p.jobs s.fau.tag).length
      jobs := s.fau.jobs ++ p.jobs s.fau.tag } } :=
  ((s.makeRef h.judging).vacate_frame b h p slot position source origin).1

theorem State.slots_roomMade (origin : h.origin = .tap slot position source) (p : Placement) :
    (s.roomMade b h p).slots.matcherRequest = s.slots.matcherRequest ∧
      (s.roomMade b h p).slots.sweeperRequest = s.slots.sweeperRequest ∧
      (s.roomMade b h p).slots.sweeperReserved = s.slots.sweeperReserved :=
  ⟨((s.makeRef h.judging).vacate_frame b h p slot position source origin).2,
    (s.makeRef h.judging).sweeperSlots_vacate b h p⟩

theorem State.enterNew_eq (p : Placement) (now : LineTime) (day : BitVec 16) : s.enterNew b h p now day =
    (((s.roomMade b h p).putWay b p.way (some { (TokenRecord.fresh h.tap.token day now).touch h now with
      openPart := some h.newOpen })).setVerdict h (filledEntry .entered (markFlags h))).finish b h := rfl

/-- The end of a tap whose new record took a way: `v` is the state with room made and the record and its job put, which
differs from that with room made in the table, the Matcher's slots and the FAU's jobs alone. -/
theorem State.inserted (hold : s.inTapHold b read h slot position source) {p : Placement} {v : State} (e : VerdictEntry)
    (only : v = { s.roomMade b h p with table := v.table, slots := v.slots, fau := v.fau })
    (slots : v.slots.matcherRequest = (s.roomMade b h p).slots.matcherRequest ∧
      v.slots.sweeperRequest = (s.roomMade b h p).slots.sweeperRequest ∧
      v.slots.sweeperReserved = (s.roomMade b h p).slots.sweeperReserved)
    (channels : v.fau.channels = (s.roomMade b h p).fau.channels) {q : TokenRecord}
    (table : v.table = sparseSet s.table (wayKey b p.way) q) :
    let t := (v.setVerdict h e).finish b h
    t = { s with
        table := t.table, store := t.store, station := t.station, holds := t.holds, slots := t.slots
        matcher := t.matcher, responder := s.insertionSeen b p source, fau := v.fau } ∧
      t.way b p.way = some q ∧ s.sameWaysBut t b p.way ∧ s.insertionBanks t p h.judging ∧
      s.tapEnds t b slot position e := by
  have origin := hold.2.2.1
  have room := State.roomMade_only (s := s) (b := b) origin p
  obtain ⟨request, sweeperRequest, sweeperReserved⟩ := State.slots_roomMade (s := s) (b := b) origin p
  have ended := State.ended_eq (b := b) hold e (slots.1.trans request)
  obtain ⟨way, others⟩ := State.way_ended hold e (slots.1.trans request) table
  refine ⟨?_, way, others, ?_, ?_⟩
  · rw [ended, only, room]
    simp only [State.insertionSeen_counted]
  · refine State.insertionBanks_congr ?_ (s.banks_vacate b h p h.judging)
    rw [ended, only]
    rfl
  · refine State.tapEnds_of hold e
      ⟨slots.1.trans request, slots.2.1.trans sweeperRequest, slots.2.2.trans sweeperReserved⟩ ?_ ?_
    · rw [only, room]
      exact ⟨rfl, rfl, rfl⟩
    · refine ⟨?_, ?_, ?_, channels.trans (by rw [room])⟩
      · rw [only, room]
        exact State.inWork_insertionSeen s b p source
      · rw [only, room]
      · rw [only, room]

end Insertion

/-- Settles O31: by the judging bank, the station, and the choice of way. -/
theorem entryOfANewTokenTakesAWay : Obligations.EntryOfANewTokenTakesAWay := by
  intro s h b slot position read source hold absent entry day p leg record
  have taken : takenAsEntry h.tap.direction false = true := by
    rcases entry with entry | entry <;> simp [takenAsEntry, entry, directionEntry, directionEither]
  have run := exec_tapHoldGranted_absent hold absent
  rw [if_pos taken] at run
  have fails : ¬s.judgingActive h → s.claimHolds h = false := fun inactive => by
    simpa using mt (State.claimHolds_iff s h).1 inactive
  refine ⟨fun notInUse => State.putsOff_of_claimFails ?_, fun inUse closed => ?_,
    fun isOpen => ⟨fun inUse full => State.putsOff_of_exec ?_, fun room inactive => State.putsOff_of_claimFails ?_,
      fun room active => ?_⟩⟩
  · have unreadable : s.judgeable h = false := by simpa using mt (State.judgeable_iff s h).1 notInUse
    rw [run, State.handleEntry, if_pos unreadable]
  · rw [State.handleEntry_closed inUse closed] at run
    have ends : s.endClosed b h none read.now = ((s.count Counters.addRefused).setVerdict h
        (filledEntry .stationClosed (markFlags h))).finish b h := by
      simp only [State.endClosed]
      rw [State.setVerdict_count hold.2.2.1]
    rw [ends] at run
    refine ⟨_, run, ?_, State.tapEnds_of hold _ ⟨rfl, rfl, rfl⟩ ⟨rfl, rfl, rfl⟩ ⟨rfl, rfl, rfl, rfl⟩⟩
    rw [State.ended_eq (u := s.count Counters.addRefused) hold _ rfl]
    rfl
  · have judgeable : s.judgeable h ≠ false := by simp [(State.judgeable_iff s h).2 inUse]
    have isFull : s.placement b (dayOf read.now) = .full := full
    simp only [run, State.handleEntry, judgeable, isOpen, isFull, Bool.true_eq_false, if_true, if_false]
  · have notFull : s.placement b (dayOf read.now) ≠ .full := room
    simp only [run, State.handleEntry, isOpen, notFull, fails inactive, Bool.true_eq_false, Bool.false_eq_true, if_false,
      ite_self]
  · have judgeable : s.judgeable h ≠ false := by
      simp [(State.judgeable_iff s h).2 (State.judgingInUse_of_active active)]
    have notFull : s.placement b (dayOf read.now) ≠ .full := room
    have enters : s.handleEntry b h none read.now (dayOf read.now) = s.enterNew b h p read.now day := by
      simp only [State.handleEntry, judgeable, isOpen, notFull, (State.claimHolds_iff s h).2 active, Bool.true_eq_false,
        if_true, if_false]
      rfl
    rw [enters, State.enterNew_eq] at run
    obtain ⟨only, rest⟩ := State.inserted (p := p) (q := record) (v := (s.roomMade b h p).putWay b p.way (some record)) hold
      (filledEntry .entered (markFlags h)) rfl ⟨rfl, rfl, rfl⟩ rfl
      (by rw [State.roomMade_only (s := s) (b := b) hold.2.2.1 p]; rfl)
    refine ⟨_, run, only.trans ?_, rest⟩
    have fau : ((s.roomMade b h p).putWay b p.way (some record)).fau = (s.roomMade b h p).fau := rfl
    rw [fau, State.roomMade_only (s := s) (b := b) hold.2.2.1 p]
    rfl

theorem Placement.displaces_iff {p : Placement} : p.displaces = true ↔ ∃ w r o, p = .displace w r o := by
  cases p <;> simp [Placement.displaces]

/-- Settles O32: by the choice of way, the reservations held, and the bank claim. -/
theorem exitOfANewTokenTakesAWay : Obligations.ExitOfANewTokenTakesAWay := by
  intro s h b slot position read source hold absent exits day p needsTwo leg tag flags
  have notEntry : ¬takenAsEntry h.tap.direction false = true := by
    simp [takenAsEntry, exits, directionEntry, directionEither]
  have run := exec_tapHoldGranted_absent hold absent
  rw [if_neg notEntry] at run
  have chosen : s.placement b (dayOf read.now) = p := rfl
  simp only [State.exitNew, chosen] at run
  refine ⟨fun full => State.putsOff_of_exec (run.trans ?_), fun displaces few => run.trans ?_, fun room enough => ?_⟩
  · rw [if_pos full]
  · have notFull : p ≠ .full := by
      obtain ⟨w, r, o, isDisplace⟩ := displaces
      simp [isDisplace]
    rw [if_neg notFull, if_pos ⟨Placement.displaces_iff.2 displaces, few⟩, State.waitAfterHold_eq,
      State.requestMatcherSlot_eq]
    rfl
  · have noSecond : ¬(p.displaces = true ∧ s.slots.matcherReserved < 2) := fun ⟨displaces, few⟩ =>
      enough.elim (· (Placement.displaces_iff.1 displaces)) (Nat.not_le.2 few)
    rw [if_neg room, if_neg noSecond] at run
    refine ⟨fun inactive => State.putsOff_of_claimFails (run.trans ?_), fun active => ?_⟩
    · rw [if_neg (mt (State.claimHolds_iff s h).1 inactive)]
    · rw [if_pos ((State.claimHolds_iff s h).2 active)] at run
      have made := State.roomMade_only (s := s) (b := b) hold.2.2.1 p
      have exitsNew : ((s.makeRef h.judging).vacate b h p).exitUnmatched b p.way h
          (TokenRecord.fresh h.tap.token (dayOf read.now) read.now) read.now =
        (((s.roomMade b h p).closingMade b p.way ((TokenRecord.fresh h.tap.token day read.now).touch h read.now)
          (closeUnmatched h)).setVerdict h (waitingEntry .unmatched (markFlags h))).finish b h := rfl
      rw [exitsNew] at run
      have part : (s.roomMade b h p).tagged (closeUnmatched h) =
          { journey := .unmatched leg, tag := tag, bank := h.judging, cls := h.tap.cls, ref := .verdict slot position
            flags := flags } := by
        rw [State.tagged, closeUnmatched, Handling.ref_of_inTapHold hold, made]
        rfl
      obtain ⟨only, way, others, banks, ends⟩ := State.inserted (p := p)
        (v := (s.roomMade b h p).closingMade b p.way ((TokenRecord.fresh h.tap.token day read.now).touch h read.now)
          (closeUnmatched h)) hold (waitingEntry .unmatched (markFlags h)) rfl ⟨rfl, rfl, rfl⟩ rfl
        (q := { (TokenRecord.fresh h.tap.token day read.now).touch h read.now with
          closing := some ((s.roomMade b h p).tagged (closeUnmatched h)) })
        (by rw [State.closingMade, made]; rfl)
      refine ⟨_, run, only.trans ?_, ?_, others, banks, _, ends, rfl, rfl, rfl⟩
      · simp only [State.closingMade, part]
        rw [made]
        rfl
      · rw [way, part]
        rfl

end Sys2Proof.Machine
end


section
/-!
The Fare Arithmetic Unit: a job taken, stages 1 to 4, the wait for a settlement entry, the write-back (spec/02, spec/03).
-/
namespace Sys2Proof.Machine

open Sys2Proof

/-! ### A job is taken (R21, R22) -/

theorem exec_jobTakenIntoWork {s : State} {job : Job} {rest : List Job} (idle : s.fau.state = .idle)
    (jobs : s.fau.jobs = job :: rest) : exec .jobTakenIntoWork s = .next
      ({ s with fau := ({ s.fau with jobs := rest } : Fau).beginComputing (s.words job.bank) job } : State).arbitrate := by
  have run : exec .jobTakenIntoWork s = execJobTakenIntoWork s := rfl
  rw [run, execJobTakenIntoWork, idle, jobs]

/-- The slots where `n` jobs are queued and not all eight slots are full: the Matcher is served first (R22). -/
theorem State.slots_arbitrate_room (s : State)
    (room : s.fau.jobs.length + s.slots.matcherReserved + s.slots.sweeperReserved < 8) : s.arbitrate.slots =
      let matcher := s.slots.matcherRequest = .waiting
      let sweeper := s.slots.sweeperRequest = .waiting ∧ (s.slots.matcherRequest ≠ .waiting ∨
        s.fau.jobs.length + 1 + s.slots.matcherReserved + s.slots.sweeperReserved < 8)
      { matcherRequest := if matcher then .granted else s.slots.matcherRequest
        matcherReserved := s.slots.matcherReserved + (if matcher then 1 else 0)
        sweeperRequest := if sweeper then .granted else s.slots.sweeperRequest
        sweeperReserved := s.slots.sweeperReserved + (if sweeper then 1 else 0) } := by
  have free : 0 < s.freeSlots := by
    simp only [State.freeSlots, Config.jobSlots]
    omega
  by_cases matcher : s.slots.matcherRequest = .waiting
  · have first : s.grantMatcherSlot = { s with slots :=
        { s.slots with matcherRequest := .granted, matcherReserved := s.slots.matcherReserved + 1 } } :=
      if_pos ⟨matcher, free⟩
    have more : 0 < s.grantMatcherSlot.freeSlots ↔
        s.fau.jobs.length + 1 + s.slots.matcherReserved + s.slots.sweeperReserved < 8 := by
      rw [first]
      simp only [State.freeSlots, Config.jobSlots]
      omega
    have waits : s.grantMatcherSlot.slots.sweeperRequest = s.slots.sweeperRequest := by rw [first]
    rw [State.arbitrate, State.grantSweeperSlot]
    simp only [more, waits]
    rw [first]
    split
    · next sweeper => simp [sweeper, matcher]
    · next sweeper => simp [sweeper, matcher]
  · have first : s.grantMatcherSlot = s := if_neg fun h => matcher h.1
    rw [State.arbitrate, first, State.grantSweeperSlot]
    by_cases sweeper : s.slots.sweeperRequest = .waiting
    · simp [sweeper, matcher, free]
    · simp [sweeper, matcher]

/-- Settles O35: the job's slot is free, so the arbiter has room for one request at least. -/
theorem oldestJobIsTakenAndItsSlotGranted : Obligations.OldestJobIsTakenAndItsSlotGranted := by
  intro s job rest idle jobs bound matcher sweeper
  refine ⟨_, exec_jobTakenIntoWork idle jobs, ?_⟩
  have count : s.fau.jobs.length = rest.length + 1 := by rw [jobs]; rfl
  rw [State.arbitrate_only, State.slots_arbitrate_room _ (by simp only [Fau.beginComputing_frame]; omega)]
  simp only [Fau.beginComputing_frame]
  rw [← count]
  rfl

/-! ### Stages 1 to 4 (R28 to R38) -/

theorem exec_computationComplete {s : State} {job : Job} (computing : s.fau.state = .computing job) :
    exec .computationComplete s = .next { s with
      fau := s.fau.endComputing (job.withStageOne (s.words job.bank))
        (computeFare (s.words job.bank) job.journey job.cls) } := by
  have run : exec .computationComplete s = execComputationComplete s := rfl
  rw [run, execComputationComplete, computing]

theorem fareOf_priced {m : WordMem} {journey : Journey} (priced : ∀ e x, journey ≠ .cancelled e x) (cls : Octet) :
    fareOf m journey cls = clampedFare m (classFactor m cls)
      (steppedFare (roundingMode m) (fareStep m) (toCents (scaledCharge m journey cls))) := by
  cases journey with
  | cancelled e x => exact absurd rfl (priced e x)
  | _ => rfl

/-- What a job that is priced comes to, by what stage 1 found (R28, R31 to R38). -/
theorem exec_computationComplete_priced {s : State} {job : Job} (computing : s.fau.state = .computing job)
    (priced : ∀ e x, job.journey ≠ .cancelled e x) {one : StageOne}
    (found : stageOne (s.words job.bank) job.journey = one) : exec .computationComplete s = .next { s with
      fau := { s.fau with
        state := .waitSettlement
          { job with flags := { job.flags with overrideUsed := job.flags.overrideUsed || one.overrideUsed } }
          { distance := one.distance, pathStart := one.pathStart, pathEnd := one.pathEnd
            fare := clampedFare (s.words job.bank) (classFactor (s.words job.bank) job.cls)
              (steppedFare (roundingMode (s.words job.bank)) (fareStep (s.words job.bank))
                (toCents (scaleBy (scaleBy (baseCharge (s.words job.bank) one.distance)
                  (bandFactorAt (s.words job.bank) (referenceTime job.journey)))
                  (classFactor (s.words job.bank) job.cls))))
            version := wordAt (s.words job.bank) 0 }
        accumulator := 0, intermediate := 0 } } := by
  subst found
  rw [exec_computationComplete computing, computeFare, fareOf_priced priced]
  rfl

/-- Stage 1 of a pair of stations whose exit is in force (R28). -/
theorem stageOnePair_known {m : WordMem} {e x : Nat} (known : x < stationCount m) :
    stageOnePair m e x = ⟨chargedDistance m e x, e, x, (overrideFor m e x).isSome⟩ := if_pos known

/-- Stage 1 of a pair of stations whose exit is not in force goes to the farthest station of the entry (R28). -/
theorem stageOnePair_unknown {m : WordMem} {e x : Nat} (unknown : stationCount m ≤ x) :
    stageOnePair m e x = ⟨derivedDistance m e, e, derivedStation m e, false⟩ := if_neg (Nat.not_lt.2 unknown)

/-- The test of the search for an override pair says that the pair names the two stations (R8). -/
theorem overrideNames_iff {m : WordMem} {p a z : Nat} : overrideNames m p a z ↔ p < overrideCount m ∧
    (overrideA m p = min a z ∧ overrideB m p = max a z ∧ a ≠ z) := by
  unfold overrideNames
  omega

theorem overrideFor_none {m : WordMem} {a z : Nat} (noPair : ∀ p, ¬overrideNames m p a z) : overrideFor m a z = none := by
  rw [overrideFor, List.find?_eq_none.2, Option.map_none]
  intro p hp
  simpa using fun named => noPair p (overrideNames_iff.2 ⟨List.mem_range.1 hp, named⟩)

theorem overrideFor_some {m : WordMem} {p a z : Nat} (names : overrideNames m p a z)
    (first : ∀ q < p, ¬overrideNames m q a z) : overrideFor m a z = some (overrideDistance m p) := by
  obtain ⟨inForce, named⟩ := overrideNames_iff.1 names
  rw [overrideFor, (List.find?_range_eq_some (i := p)).2 ⟨decide_eq_true named, List.mem_range.2 inForce,
    fun q less => ?_⟩, Option.map_some]
  rw [Bool.not_eq_true', decide_eq_false_iff_not]
  exact fun named => first q less (overrideNames_iff.2 ⟨less.trans inForce, named⟩)

theorem bandStart_lt {m : WordMem} {d : Nat} (rising : ∀ j, j + 1 < bandCount m d → bandStart m d j < bandStart m d (j + 1))
    {j : Nat} : ∀ {k}, j < k → k < bandCount m d → bandStart m d j < bandStart m d k := by
  intro k less
  induction k, less using Nat.le_induction with
  | base => exact rising j
  | succ k _ ih => exact fun inForce => (ih (by omega)).trans (rising k inForce)

/-- The search for the band in force keeps the greatest start minute not above the minute, of the bands searched. -/
theorem bandInForce_greatest {m : WordMem} {d minute : Nat} (origin : bandStart m d 0 = 0) (n : Nat) :
    let best := (List.range n).foldl
      (fun best j => if bandStart m d best ≤ bandStart m d j ∧ bandStart m d j ≤ minute then j else best) 0
    (best = 0 ∨ best < n) ∧ bandStart m d best ≤ minute ∧
      ∀ k < n, bandStart m d k ≤ minute → bandStart m d k ≤ bandStart m d best := by
  induction n with
  | zero => simp [origin]
  | succ n ih =>
    rw [List.range_succ, List.foldl_append]
    obtain ⟨inside, below, greatest⟩ := ih
    simp only [List.foldl_cons, List.foldl_nil]
    split
    · next taken =>
      refine ⟨.inr (Nat.lt_succ_self n), taken.2, fun k less low => ?_⟩
      rcases Nat.lt_succ_iff_lt_or_eq.1 less with less | rfl
      · exact (greatest k less low).trans taken.1
      · exact le_rfl
    · next kept =>
      refine ⟨inside.imp_right (Nat.lt_succ_of_lt ·), below, fun k less low => ?_⟩
      rcases Nat.lt_succ_iff_lt_or_eq.1 less with less | rfl
      · exact greatest k less low
      · exact (Nat.lt_of_not_le fun more => kept ⟨more, low⟩).le

theorem bandInForce_eq {m : WordMem} {d minute j : Nat} (origin : bandStart m d 0 = 0)
    (rising : ∀ j, j + 1 < bandCount m d → bandStart m d j < bandStart m d (j + 1)) (inForce : j < bandCount m d)
    (low : bandStart m d j ≤ minute)
    (greatest : ∀ k < bandCount m d, bandStart m d k ≤ minute → bandStart m d k ≤ bandStart m d j) :
    bandInForce m d minute = j := by
  obtain ⟨inside, below, best⟩ := bandInForce_greatest (minute := minute) origin (bandCount m d)
  change (bandInForce m d minute = 0 ∨ bandInForce m d minute < bandCount m d) at inside
  change bandStart m d (bandInForce m d minute) ≤ minute at below
  have inside : bandInForce m d minute < bandCount m d := by omega
  have same := le_antisymm (greatest _ inside below) (best j inForce low)
  rcases lt_trichotomy (bandInForce m d minute) j with less | same | more
  · exact absurd same (bandStart_lt rising less inForce).ne
  · exact same
  · exact absurd same (bandStart_lt rising more inside).ne'

/-- Settles O36: by the kind of the job; the lookups by their searches. -/
theorem computationHandsOnTheFare : Obligations.ComputationHandsOnTheFare := by
  refine ⟨fun s job computing => ?_, fun m a z => ⟨fun noPair => ?_, fun p names first => ?_⟩,
    fun m n => ⟨fun isHoliday => ?_, fun noHoliday => ?_⟩, fun m t j => ?_⟩
  · have run := exec_computationComplete computing
    obtain ⟨journey, tag, token, bank, cls, ref, flags⟩ := job
    intro m fare handsOn pair
    cases journey with
    | complete e x =>
      exact ⟨fun known => exec_computationComplete_priced computing nofun (stageOnePair_known known),
        fun unknown => exec_computationComplete_priced computing nofun (stageOnePair_unknown unknown)⟩
    | correction e x paid =>
      exact ⟨fun known => exec_computationComplete_priced computing nofun (stageOnePair_known known),
        fun unknown => exec_computationComplete_priced computing nofun (stageOnePair_unknown unknown)⟩
    | cancelled e x => exact run
    | incomplete e => exact exec_computationComplete_priced computing nofun rfl
    | unmatched x => exact exec_computationComplete_priced computing nofun rfl
    | expired e => exact exec_computationComplete_priced computing nofun rfl
    | displaced e => exact exec_computationComplete_priced computing nofun rfl
  · exact ⟨overrideFor_none noPair, by rw [chargedDistance, overrideFor_none noPair, Option.getD_none]⟩
  · exact ⟨overrideFor_some names first, by rw [chargedDistance, overrideFor_some names first, Option.getD_some]⟩
  · exact if_pos (by simpa using isHoliday)
  · exact if_neg (by simpa using noHoliday)
  · intro d minute bands day inForce low greatest
    obtain ⟨origin, rising⟩ := bands d (by omega)
    exact congrArg (bandFactor m d) (bandInForce_eq origin rising inForce low greatest)

end Sys2Proof.Machine
end


section
/-!
The end of a job (R19, R20, R41 to R54): the wait for a settlement entry, and the write-back of a tracked and of an
untracked job.
-/
namespace Sys2Proof.Machine

open Sys2Proof

/-! ### References released, and the notice of a removal, as seen from a state that agrees (R76, R152) -/

theorem State.banksReleased_congr {s u t v : State} {n : BankId → Nat} (released : u.banksReleased t n)
    (store : u.store = s.store) (sweeper : u.sweeper = s.sweeper) (after : v.store = t.store) : s.banksReleased v n := by
  obtain ⟨only, each⟩ := released
  have bank : ∀ k, u.bank k = s.bank k := fun k => by rw [State.bank, store]; rfl
  have last : ∀ k, v.bank k = t.bank k := fun k => by rw [State.bank, after]; rfl
  have pass : u.inRestartPass = s.inRestartPass := by rw [State.inRestartPass, sweeper]; rfl
  refine ⟨by rw [after, ← store]; exact only, fun k => ?_⟩
  rw [last, each k, bank, pass]

theorem State.bucketOf_congr {s u : State} (same : u.bucketCount = s.bucketCount) (t : Token) :
    u.bucketOf t = s.bucketOf t := by
  rw [State.bucketOf, same]
  rfl

theorem State.noticed_congr {s u t : State} {b : Nat} {token : Token} (noticed : u.noticed t b token)
    (matcher : u.matcher = s.matcher) (holds : u.holds = s.holds) (inWork : u.responder.inWork = s.responder.inWork)
    (buckets : u.bucketCount = s.bucketCount) (clock : u.clock = s.clock)
    (channels : u.fau.channels = s.fau.channels) : s.noticed t b token := by
  have bucket := State.bucketOf_congr buckets
  unfold State.noticed at noticed ⊢
  rw [matcher, holds, State.readWaits_congr inWork buckets, State.heldNow_congr clock channels,
    State.holdsReleased_congr inWork buckets clock channels] at noticed
  simpa only [bucket] using noticed

/-! ### The report of a write-back (R50, R51, R53, R54) -/

theorem State.answerJob_only (s : State) (job : Job) (x : Settlement) (c : Charge) : s.answerJob job x c = { s with
    station := (s.answerJob job x c).station
    office := { s.office with
      replies := (s.answerJob job x c).office.replies, readyReplies := (s.answerJob job x c).office.readyReplies } } := by
  unfold State.answerJob
  split
  · rfl
  · rw [State.setEntry_only]
  · rfl

/-- What a report makes: the settlement is appended, counted and numbered, and the answer goes to its place. -/
theorem State.report_only (s : State) (job : Job) (r : FareResult) (c : Charge) (channels : BitVec 4) :
    s.report job r c channels = { s with
      station := (s.report job r c channels).station
      fau := { s.fau with serial := s.fau.serial + 1 }
      office := { s.office with
        settlements := s.office.settlements ++ [s.settlementOf job r c channels]
        replies := (s.report job r c channels).office.replies
        readyReplies := (s.report job r c channels).office.readyReplies }
      responder := { s.responder with counters := s.responder.counters.addSettlement } } := by
  rw [State.report, State.answerJob_only]
  rfl

theorem State.report_silent (s : State) {job : Job} (silent : job.ref = .none) (r : FareResult) (c : Charge)
    (channels : BitVec 4) : s.report job r c channels = s.appendSettlement (s.settlementOf job r c channels) := by
  simp only [State.report, State.answerJob, silent]

/-! ### The release of the FAU's hold (R74, R76) -/

theorem State.notice_only (s : State) (b : Nat) (t : Token) :
    s.notice b t = { s with matcher := (s.notice b t).matcher, holds := (s.notice b t).holds } := by
  unfold State.notice
  split
  · split
    · rw [State.requestHold_eq]
    · rfl
  · split
    · rw [State.requestHold_eq]
    · rfl
  · rfl

theorem State.releaseFau_only (s : State) (b : Nat) (job : Job) (removed : Bool) : s.releaseFau b job removed = { s with
    fau := { s.fau with state := .idle }
    matcher := (s.releaseFau b job removed).matcher, holds := (s.releaseFau b job removed).holds } := by
  unfold State.releaseFau
  cases removed
  · rw [State.releaseHold_eq]
    rfl
  · rw [State.releaseHold_eq, if_pos rfl, State.notice_only]
    rfl

theorem State.noHold_releaseFau (s : State) (b : Nat) (job : Job) (removed : Bool) :
    (s.releaseFau b job removed).holds.fau = .none :=
  State.get_releaseHold _ .fau b

/-! ### The wait for a settlement entry (R19, R20, R48) -/

theorem State.releaseRef_only (s : State) (b : BankId) : s.releaseRef b = { s with store := (s.releaseRef b).store } := rfl

theorem execWaitSettlementEnd_eq {s : State} {job : Job} {r : FareResult} (waits : s.fau.state = .waitSettlement job r) :
    exec .waitSettlementEnd s =
      if s.office.settlements.length < 64 then
        if job.isDisplaced then .next (((s.writeBackUntracked job r s.fau.channels).releaseRef job.bank).setFau .idle)
        else .next ((s.setFau (.waitHold job r)).requestHold .fau (s.bucketOf job.token))
      else .next s := by
  have run : exec .waitSettlementEnd s = execWaitSettlementEnd s := rfl
  rw [run, execWaitSettlementEnd, waits]
  rfl

/-- Settles O37: an entry is free or not, and the job is a DISPLACED one or not. -/
theorem settlementEntryEndsTheWait : Obligations.SettlementEntryEndsTheWait := by
  intro s job r waits
  have run := execWaitSettlementEnd_eq waits
  refine ⟨fun full => ?_, fun room other => ?_, fun e room displaced silent => ?_⟩
  · rw [run, if_neg (Nat.not_lt.2 full)]
  · have isOther : job.isDisplaced = false := by
      unfold Job.isDisplaced
      split
      · next e kind => exact absurd kind (other e)
      · rfl
    rw [run, if_pos room, isOther, State.requestHold_eq]
    rfl
  · have isDisplaced : job.isDisplaced = true := by rw [Job.isDisplaced, displaced]
    have report : s.writeBackUntracked job r s.fau.channels = s.appendSettlement
        (s.settlementOf job.untracked r (chargeUntracked r.fare) s.fau.channels) :=
      s.report_silent (job := job.untracked) silent _ _ _
    rw [if_pos room, isDisplaced, if_pos rfl, report] at run
    refine ⟨_, _, run, rfl, rfl, rfl, rfl, rfl, rfl, rfl, rfl, rfl, rfl, rfl, rfl, ?_⟩
    exact State.banksReleased_congr (State.banksReleased_releaseRef
      (s.appendSettlement (s.settlementOf job.untracked r (chargeUntracked r.fare) s.fau.channels)) job.bank) rfl rfl rfl

/-! ### The write-back (R41 to R54) -/

theorem exec_writeBack {s : State} {job : Job} {r : FareResult} {b : Nat} {read : Reading}
    (waits : s.fau.state = .waitHold job r) (held : s.holds.fau = .held b read) :
    exec .writeBack s = .next (s.writeBack b job r read) := by
  have run : exec .writeBack s = execWriteBack s := rfl
  rw [run, execWriteBack, waits, held]

theorem capRoom_eq (cap x : Nat) :
    capRoom cap x = if cap = 65535 then 65535 else if x < cap then cap - x else 0 := by
  unfold capRoom
  split_ifs <;> omega

/-- Stage 5 of a tracked job, a CORRECTION's old charge taken off the spend first (R42, R43). -/
theorem chargeJob_eq (m : WordMem) (job : Job) (fare : Nat) (old : TokenRecord) :
    let cap := dailyCap m job.cls
    let paid := ((job.journey.oldCharge?).getD 0).toNat
    let rest := old.spentToday.toNat - paid
    let charge := min fare (capRoom cap rest)
    chargeJob m job fare old =
      { charge := charge, amount := (charge : Int) - paid, spentAfter := min 65535 (rest + charge)
        journeys := if (job.journey.oldCharge?).isSome then old.journeysToday.toNat
          else min 255 (old.journeysToday.toNat + 1)
        roomAfter := capRoom cap (min 65535 (rest + charge)) } := by
  unfold chargeJob
  cases job.journey <;> simp [Journey.oldCharge?, chargeCorrection, chargeTracked]

/-- The write-back of a job whose record is found (R41 to R47). -/
theorem State.writeBack_found {s : State} {b w : Nat} {job : Job} {q : TokenRecord} {c : ClosingPart}
    (found : s.lookupClosing b job.token job.tag = some (w, q, c)) (r : FareResult) (read : Reading) :
    s.writeBack b job r read =
      ((s.settleParts b w job ((q.onDay (dayOf read.now)).charged
          (chargeJob (s.words job.bank) job r.fare (q.onDay (dayOf read.now))))
        (chargeJob (s.words job.bank) job r.fare (q.onDay (dayOf read.now))) read.now).report job r
          (chargeJob (s.words job.bank) job r.fare (q.onDay (dayOf read.now))) read.channels).releaseFau b job true := by
  rw [State.writeBack, found]
  rfl

theorem State.writeBack_absent {s : State} {b : Nat} {job : Job}
    (absent : s.lookupClosing b job.token job.tag = none) (r : FareResult) (read : Reading) :
    s.writeBack b job r read = (s.writeBackUntracked job r read.channels).releaseFau b job false := by
  rw [State.writeBack, absent]

/-- The parts settled: the record in its way and the banks' counts alone (R45 to R47). -/
theorem State.settleParts_only (s : State) (b w : Nat) (job : Job) (old : TokenRecord) (c : Charge) (now : LineTime) :
    s.settleParts b w job old c now = { s with
      table := (s.settleParts b w job old c now).table, store := (s.settleParts b w job old c now).store } := by
  unfold State.settleParts
  split
  · split
    · cases old.recent <;> rfl
    · rfl
  · rfl

theorem State.words_settleParts (s : State) (b w : Nat) (job : Job) (old : TokenRecord) (c : Charge) (now : LineTime)
    (k : BankId) : (s.settleParts b w job old c now).words k = s.words k := by
  have put : ∀ x, (s.putWay b w x).words k = s.words k := fun _ => by cases k <;> rfl
  unfold State.settleParts
  split
  · split
    · rw [State.words_releaseRecent, put]
    · rw [State.words_releaseRef, put]
  · rw [State.words_releaseRef, put]

/-- The settlement of a write-back: its parts settled first, which it does not see (R50, R51). -/
theorem State.settlementOf_settled (s : State) (b w : Nat) (job : Job) (old : TokenRecord) (r : FareResult) (c : Charge)
    (now : LineTime) (channels : BitVec 4) : (s.settleParts b w job old c now).settlementOf job r c channels =
      { serial := s.fau.serial, journey := job.journey, flags := job.flags, token := job.token, cls := job.cls
        version := r.version, distance := r.distance, fare := r.fare, amount := c.amount
        spentAfter := BitVec.ofNat 16 c.spentAfter
        shares := apportion (s.words job.bank) channels job.journey r c.amount } := by
  rw [State.settlementOf, State.words_settleParts, State.settleParts_only]

/-- What a tracked write-back changes, and the notice and the release at its end (R73, R74, R76). -/
theorem State.writtenBack {s : State} {b w : Nat} {job : Job} {read : Reading} (held : s.holds.fau = .held b read)
    (old : TokenRecord) (r : FareResult) (c : Charge) :
    let u := s.settleParts b w job old c read.now
    let v := u.report job r c read.channels
    let t := v.releaseFau b job true
    t = { s with
        table := u.table, store := u.store, station := v.station, holds := t.holds, matcher := t.matcher
        fau := { s.fau with state := .idle, serial := s.fau.serial + 1 }
        office := { s.office with
          settlements := s.office.settlements ++ [u.settlementOf job r c read.channels]
          replies := v.office.replies, readyReplies := v.office.readyReplies }
        responder := { s.responder with counters := { s.responder.counters with
          settlementsEmitted := s.responder.counters.settlementsEmitted + 1 } } } ∧
      t.holds.fau = .none ∧ s.noticed t b job.token := by
  intro u v t
  have only : u = { s with table := u.table, store := u.store } := State.settleParts_only ..
  have reported : v = { u with
      station := v.station
      fau := { u.fau with serial := u.fau.serial + 1 }
      office := { u.office with
        settlements := u.office.settlements ++ [u.settlementOf job r c read.channels]
        replies := v.office.replies, readyReplies := v.office.readyReplies }
      responder := { u.responder with counters := u.responder.counters.addSettlement } } := State.report_only ..
  have freed : t = { v with fau := { v.fau with state := .idle }, matcher := t.matcher, holds := t.holds } :=
    State.releaseFau_only ..
  have kept : v.matcher = s.matcher ∧ v.holds = s.holds ∧ v.responder.inWork = s.responder.inWork ∧
      v.bucketCount = s.bucketCount ∧ v.clock = s.clock ∧ v.fau.channels = s.fau.channels := by
    rw [reported, only]
    exact ⟨rfl, rfl, rfl, rfl, rfl, rfl⟩
  obtain ⟨matcher, holds, inWork, buckets, clock, channels⟩ := kept
  refine ⟨?_, State.noHold_releaseFau _ b job true, ?_⟩
  · rw [freed, reported, only]
    rfl
  · have noticed := State.noticed_release v b read job.token (by rw [holds, held]) .idle
    exact State.noticed_congr noticed matcher holds inWork buckets clock channels

/-- The answer to a verdict entry that waits: the amount and the room after (R53). -/
theorem State.station_report {s : State} {job : Job} {slot position : Nat} {e : VerdictEntry}
    (ref : job.ref = .verdict slot position) (entry : s.verdictAt slot position = some e) (r : FareResult) (c : Charge)
    (channels : BitVec 4) : (s.report job r c channels).station = s.station.withEntry slot position
      { e with complete := true, charge := c.amount, capRoom := BitVec.ofNat 16 c.roomAfter } := by
  simp only [State.report, State.answerJob, ref]
  rw [State.setEntry_change (s.appendSettlement (s.settlementOf job r c channels)) _ entry]
  rfl

/-- The answer to a reply entry that waits: serial, fare, amount and room after (R54). -/
theorem State.office_report {s : State} {job : Job} {i : Nat} {e : ReplyEntry} (ref : job.ref = .reply i)
    (entry : s.office.replies[i]? = some e) (r : FareResult) (c : Charge) (channels : BitVec 4) :
    (s.report job r c channels).office.replies = s.office.replies.set i { e with
        state := .ready, status := .done
        data := octetsOf32 s.fau.serial ++ natToOctets 2 r.fare ++ intToOctets 4 c.amount ++ natToOctets 2 c.roomAfter } ∧
      (s.report job r c channels).office.readyReplies = s.office.readyReplies ++ [i] := by
  simp only [State.report, State.answerJob, ref]
  rw [State.fillReply_eq (s.appendSettlement (s.settlementOf job r c channels)) _ _ entry]
  exact ⟨rfl, rfl⟩

theorem State.station_report_other {s : State} {job : Job} (other : ∀ slot position, job.ref ≠ .verdict slot position)
    (r : FareResult) (c : Charge) (channels : BitVec 4) : (s.report job r c channels).station = s.station := by
  simp only [State.report, State.answerJob]
  split
  · rfl
  · next ref => exact absurd ref (other _ _)
  · rfl

theorem State.replies_report_other {s : State} {job : Job} (other : ∀ i, job.ref ≠ .reply i) (r : FareResult)
    (c : Charge) (channels : BitVec 4) : (s.report job r c channels).office.replies = s.office.replies ∧
      (s.report job r c channels).office.readyReplies = s.office.readyReplies := by
  simp only [State.report, State.answerJob]
  split
  · exact ⟨rfl, rfl⟩
  · rw [State.setEntry_only]
    exact ⟨rfl, rfl⟩
  · next ref => exact absurd ref (other _)

theorem State.settleParts_charged {s : State} {b w : Nat} {job : Job} (other : ∀ e, job.journey ≠ .expired e)
    (old : TokenRecord) (c : Charge) (now : LineTime) :
    s.settleParts b w job old c now = (s.putWay b w (some old)).releaseRef job.bank := by
  unfold State.settleParts
  split
  · next e kind => exact absurd kind (other e)
  · rfl

/-- Settles O38: the record is found or not; the answer goes by the job's reference. -/
theorem writeBackChargesTheRecord : Obligations.WriteBackChargesTheRecord := by
  refine ⟨fun s job r b w read q c waits held found other => ?_,
    fun s job r b read waits held absent silent => ?_⟩
  · intro old cap room paid rest charge amount spent journeys
    have run := exec_writeBack waits held
    have roomIs : ∀ x, capRoom cap x = room x := capRoom_eq cap
    have restIs : old.spentToday.toNat - paid = rest := by simp only [rest]; split <;> omega
    have stage : chargeJob (s.words job.bank) job r.fare old =
        { charge := charge, amount := amount, spentAfter := spent, journeys := journeys, roomAfter := room spent } := by
      rw [chargeJob_eq]
      simp only [show dailyCap (s.words job.bank) job.cls = cap from rfl, roomIs]
      rw [show ((job.journey.oldCharge?).getD 0).toNat = paid from rfl, restIs]
    rw [State.writeBack_found found, show q.onDay (dayOf read.now) = old from rfl] at run
    generalize chargeJob (s.words job.bank) job r.fare old = ch at run stage
    obtain ⟨only, released, noticed⟩ := State.writtenBack (w := w) (job := job) held (old.charged ch) r ch
    rw [State.settlementOf_settled] at only
    generalize State.releaseFau _ b job true = t at run only released noticed
    rw [State.settleParts_charged other] at only
    have amountIs : ch.amount = amount := congrArg Charge.amount stage
    have roomAfterIs : ch.roomAfter = room spent := congrArg Charge.roomAfter stage
    refine ⟨t, _, run, only.trans (by rw [only]), ?_, ?_, rfl, rfl, rfl, rfl, rfl, rfl, amountIs,
      congrArg (BitVec.ofNat 16 ·.spentAfter) stage, rfl, rfl, by rw [← amountIs], ⟨?_, ?_⟩,
      fun slot position e ref entry => ?_, fun i e ref entry => ?_, fun noVerdict => ?_, fun noReply => ?_, ?_,
      released, noticed⟩
    · rw [only, stage]
      exact sparseGet_set_self _ _ _
    · rw [only]
      exact fun k away => sparseGet_set_ne _ _ away
    · exact (by omega : -(paid : Int) ≤ (charge : Int) - (paid : Int))
    · exact Int.sub_le_sub_right (Int.ofNat_le.2 (Nat.min_le_left _ _)) _
    · have filled := State.station_report (s := (s.putWay b w (some (old.charged ch))).releaseRef job.bank) ref entry r
        ch read.channels
      rw [amountIs, roomAfterIs] at filled
      have station : t.station = s.station.withEntry slot position
          { e with complete := true, charge := amount, capRoom := BitVec.ofNat 16 (room spent) } := by
        rw [only]
        exact filled
      refine ⟨?_, station⟩
      have placed := State.verdictAt_withEntry s
        { e with complete := true, charge := amount, capRoom := BitVec.ofNat 16 (room spent) } (by rw [entry]; rfl)
      rw [State.verdictAt, station]
      exact placed
    · have filled := State.office_report (s := (s.putWay b w (some (old.charged ch))).releaseRef job.bank) ref entry r
        ch read.channels
      rw [amountIs, roomAfterIs] at filled
      rw [only]
      exact filled
    · rw [only]
      exact State.station_report_other noVerdict _ _ _
    · rw [only]
      exact State.replies_report_other noReply _ _ _
    · exact State.banksReleased_congr (State.banksReleased_releaseRef (s.putWay b w _) job.bank) rfl rfl (by rw [only])
  · have run := exec_writeBack waits held
    have report : s.writeBackUntracked job r read.channels = s.appendSettlement
        (s.settlementOf job.untracked r (chargeUntracked r.fare) read.channels) :=
      s.report_silent (job := job.untracked) silent _ _ _
    have freed : ∀ u : State, u.releaseFau b job false = { u with
        fau := { u.fau with state := .idle }, holds := u.holdsReleased { u.holds with fau := .none } b } := fun u => by
      rw [State.releaseFau, if_neg Bool.false_ne_true, State.releaseHold_eq]
      rfl
    rw [State.writeBack_absent absent, report, freed] at run
    exact ⟨_, _, run, rfl, rfl, rfl, rfl, rfl, rfl, rfl, rfl, rfl, rfl⟩

/-- Settles O39: by the correction window of the job's bank. -/
theorem expiryLeavesARecentPart : Obligations.ExpiryLeavesARecentPart := by
  intro s job r b w read q c e waits held found expired silent old cap spent charge written
  have run := exec_writeBack waits held
  have stage : chargeJob (s.words job.bank) job r.fare old =
      { charge := charge, amount := charge, spentAfter := min 65535 (spent + charge)
        journeys := min 255 (old.journeysToday.toNat + 1), roomAfter := capRoom cap (min 65535 (spent + charge)) } := by
    rw [chargeJob_eq, expired]
    simp [Journey.oldCharge?, capRoom_eq, charge, cap, spent]
  rw [State.writeBack_found found, show q.onDay (dayOf read.now) = old from rfl, stage] at run
  generalize taken : ({ charge := charge, amount := charge, spentAfter := min 65535 (spent + charge)
                        journeys := min 255 (old.journeysToday.toNat + 1)
                        roomAfter := capRoom cap (min 65535 (spent + charge)) } : Charge) = ch at run
  have charged : old.charged ch = written := by rw [← taken]; rfl
  obtain ⟨only, released, noticed⟩ := State.writtenBack (w := w) (job := job) held (old.charged ch) r ch
  have station : ∀ u : State, (u.report job r ch read.channels).station = u.station := fun u =>
    State.station_report_other (by rw [silent]; nofun) _ _ _
  have replies : ∀ u : State, (u.report job r ch read.channels).office.replies = u.office.replies ∧
      (u.report job r ch read.channels).office.readyReplies = u.office.readyReplies := fun u =>
    State.replies_report_other (by rw [silent]; nofun) _ _ _
  simp only [station, replies] at only
  generalize State.releaseFau _ b job true = t at run only released noticed
  have settled := State.settleParts_only s b w job (old.charged ch) ch read.now
  refine ⟨t, (s.settleParts b w job (old.charged ch) ch read.now).settlementOf job r ch read.channels, run, only.trans ?_,
    ?_, by rw [State.settlementOf_settled, ← taken], fun noWindow => ?_, fun window => ?_, released, noticed⟩
  · rw [only, settled]
  · rw [only, State.settleParts, expired]
    dsimp only
    split_ifs
    · cases (old.charged ch).recent <;> exact fun k away => sparseGet_set_ne _ _ away
    · exact fun k away => sparseGet_set_ne _ _ away
  · have settles : s.settleParts b w job (old.charged ch) ch read.now =
        (s.putWay b w (some written)).releaseRef job.bank := by
      rw [State.settleParts, expired, charged]
      exact if_neg (by omega)
    rw [settles] at only
    refine ⟨by rw [only]; exact sparseGet_set_self _ _ _, ?_⟩
    exact State.banksReleased_congr (State.banksReleased_releaseRef (s.putWay b w _) job.bank) rfl rfl (by rw [only])
  · have recent : written.recent = q.recent := by
      simp only [written, old, TokenRecord.onDay]
      split <;> rfl
    have settles : s.settleParts b w job (old.charged ch) ch read.now =
        (s.putWay b w (some { written with recent := some (recentPartOf job e read.now ch) })).releaseRecent q.recent := by
      rw [State.settleParts, expired, charged, ← recent]
      exact if_pos window
    rw [settles] at only
    refine ⟨?_, ?_⟩
    · have way : t.way b w = some { written with recent := some (recentPartOf job e read.now ch) } := by
        rw [only]
        cases q.recent <;> exact sparseGet_set_self _ _ _
      rw [way, ← taken]
      rfl
    · have parts : (s.putWay b w (some { written with recent := some (recentPartOf job e read.now ch) })).banksReleased
          ((s.putWay b w (some { written with recent := some (recentPartOf job e read.now ch) })).releaseRecent q.recent)
          fun k => if q.recent.map (·.bank) = some k then 1 else 0 := by
        cases q.recent with
        | none => exact ⟨rfl, fun k => by simp [State.releaseRecent]⟩
        | some p =>
          simpa [State.releaseRecent, eq_comm] using State.banksReleased_releaseRef
            (s.putWay b w (some { written with recent := some (recentPartOf job e read.now ch) })) p.bank
      exact State.banksReleased_congr parts rfl rfl (by rw [only])

end Sys2Proof.Machine
end


section
/-!
Fares, charges and shares: the base charge over the tiers (R31), the charge under the cap (R42, R43), the path, its owned
lengths and their fold (R55 to R57, R59).
-/
namespace Sys2Proof.Machine

open Sys2Proof

/-! ### The base charge (R11, R31) -/

theorem lowHalf_le (w : Word) : lowHalf w ≤ 65535 := by
  have := (w.extractLsb' 0 16).isLt
  rw [lowHalf]
  omega

theorem tierLower_succ {m : WordMem} {i : Nat} (h : 1 ≤ i) : tierLower m (i + 1) = tierBoundary m i := by
  rw [tierLower, if_neg (by omega)]
  rfl

/-- The lengths of the tiers up to one below the last make up the distance up to its boundary. -/
theorem sum_tierLength_below {m : WordMem} (rising : ∀ i, 1 ≤ i → i + 1 < tierCount m →
    tierBoundary m i < tierBoundary m (i + 1)) (d : Nat) {k : Nat} (first : 1 ≤ k) : k < tierCount m →
    ((List.range k).map fun i => tierLength m d (i + 1)).sum = min d (tierBoundary m k) := by
  induction k, first using Nat.le_induction with
  | base =>
    intro below
    simp only [List.range_one, List.map_cons, List.map_nil, List.sum_cons, List.sum_nil, tierLength, tierLower, below,
      if_true, le_refl, zero_add]
    split <;> omega
  | succ k first ih =>
    intro below
    have order := rising k first below
    rw [List.range_succ, List.map_append, List.sum_append, ih (by omega)]
    simp only [List.map_cons, List.map_nil, List.sum_cons, List.sum_nil, tierLength, tierLower_succ first, below, if_true]
    split <;> omega

theorem sum_tierLength {m : WordMem} (rising : ∀ i, 1 ≤ i → i + 1 < tierCount m →
    tierBoundary m i < tierBoundary m (i + 1)) (some : 1 ≤ tierCount m) (d : Nat) :
    ((List.range (tierCount m)).map fun i => tierLength m d (i + 1)).sum = d := by
  obtain ⟨n, count⟩ : ∃ n, tierCount m = n + 1 := ⟨tierCount m - 1, by omega⟩
  have last : tierLength m d (n + 1) = if tierLower m (n + 1) < d then d - tierLower m (n + 1) else 0 := by
    rw [tierLength, if_neg (show ¬n + 1 < tierCount m by omega)]
  rw [count, List.range_succ, List.map_append, List.sum_append]
  simp only [List.map_cons, List.map_nil, List.sum_cons, List.sum_nil, last]
  rcases Nat.eq_zero_or_pos n with rfl | more
  · simp only [List.range_zero, List.map_nil, List.sum_nil, tierLower, zero_add, le_refl, if_true]
    split <;> omega
  · rw [sum_tierLength_below rising d more (by omega), tierLower_succ more]
    split <;> omega

theorem sum_tierCharge_le (m : WordMem) (d n : Nat) :
    ((List.range n).map fun i => tierLength m d (i + 1) * tierRate m (i + 1)).sum ≤
      ((List.range n).map fun i => tierLength m d (i + 1)).sum * 65535 := by
  rw [← List.sum_map_mul_right]
  exact List.sum_le_sum fun i _ => Nat.mul_le_mul_left _ (lowHalf_le _)

/-- Settles O40: the tier lengths make up the distance, and no rate is above 65535. -/
theorem baseChargeIsExactAndBounded : Obligations.BaseChargeIsExactAndBounded := by
  intro m d counts parameters tiers short
  obtain ⟨-, -, ⟨oneTier, -⟩, -⟩ := countsInRange_iff.1 counts
  obtain ⟨⟨boarding, -⟩, -⟩ := parametersInRange_iff.1 parameters
  have total := sum_tierLength (tiersIncrease_iff.1 tiers) oneTier d
  have charge := sum_tierCharge_le m d (tierCount m)
  rw [total] at charge
  have bound : baseCharge m d ≤ 4360371225 := by
    rw [baseCharge]
    omega
  refine ⟨rfl, total, fun i first below => ?_, bound, by omega⟩
  have lower : tierLower m i = if i = 1 then 0 else tierBoundary m (i - 1) := by
    have lowest : i ≤ 1 ↔ i = 1 := by omega
    simp only [tierLower, lowest]
  rw [tierLength, if_pos below, lower]

/-! ### The charge under the cap (R42, R43) -/

/-- Settles O42: by the definition of stage 5, with the room as the part of the cap that is left. -/
theorem chargesStayUnderTheCap : Obligations.ChargesStayUnderTheCap := by
  refine ⟨fun cap fare spent journeys hcap hfare hspent hjourneys => ?_,
    fun cap fare old spent journeys hcap hfare hold hspent => ?_⟩
  · intro room c
    have roomIs : ∀ x, capRoom cap x = room x := capRoom_eq cap
    have charge : c.charge = min fare (room spent) := by rw [← roomIs]; rfl
    have spentAfter : c.spentAfter = min 65535 (spent + c.charge) := rfl
    have roomSpent : room spent = if cap = 65535 then 65535 else if spent < cap then cap - spent else 0 := rfl
    refine ⟨charge, spentAfter, rfl, rfl, roomIs _, fun free => ?_, fun full => ?_, fun capped within => ?_,
      fun capped beyond => ?_, fun uncapped => ?_⟩
    · rw [spentAfter, charge]
      omega
    · omega
    · rw [spentAfter, charge]
      split_ifs at roomSpent <;> omega
    · rw [spentAfter, charge]
      split_ifs at roomSpent <;> omega
    · rw [charge, roomSpent, if_pos uncapped]
      omega
  · intro rest room c
    have roomIs : ∀ x, capRoom cap x = room x := capRoom_eq cap
    have restIs : spent - old = rest := by simp only [rest]; split <;> omega
    have made : c = ⟨min fare (room rest), (min fare (room rest) : Nat) - (old : Int),
        min 65535 (rest + min fare (room rest)), journeys, room (min 65535 (rest + min fare (room rest)))⟩ := by
      simp only [c, chargeCorrection, roomIs, restIs]
    rw [made]
    exact ⟨rfl, rfl, rfl, rfl, rfl, by simp only; omega, by simp only; omega⟩

/-! ### The path and its owners (R7, R55 to R57, R59) -/

theorem absDiff_comm (x y : Nat) : absDiff x y = absDiff y x := Nat.add_comm _ _

theorem max_sub_min (x y : Nat) : max x y - min x y = absDiff x y := by
  rw [absDiff]
  omega

theorem pathLength_pathSpans (m : WordMem) (s t : Nat) : pathLength (pathSpans m s t) = geometricDistance m s t := by
  simp only [pathSpans, geometricDistance]
  split_ifs <;> simp [pathLength, max_sub_min, Nat.add_assoc]

theorem geometricDistance_comm (m : WordMem) (s t : Nat) : geometricDistance m s t = geometricDistance m t s := by
  simp only [geometricDistance]
  split_ifs <;> simp_all [absDiff_comm, Nat.add_assoc, Nat.add_comm, Nat.add_left_comm]

theorem overrideFor_comm (m : WordMem) (s t : Nat) : overrideFor m s t = overrideFor m t s := by
  simp only [overrideFor, min_comm s t, max_comm s t, ne_comm (a := s)]

theorem chargedDistance_comm (m : WordMem) (s t : Nat) : chargedDistance m s t = chargedDistance m t s := by
  rw [chargedDistance, chargedDistance, overrideFor_comm, geometricDistance_comm]

theorem chargedDistance_le (m : WordMem) (s t : Nat) : chargedDistance m s t ≤ 65535 := by
  rw [chargedDistance, overrideFor]
  cases (List.range (overrideCount m)).find? _ with
  | none => exact Nat.min_le_left _ _
  | some p => exact lowHalf_le _

theorem chargedDistance_self (m : WordMem) (s : Nat) : chargedDistance m s s = 0 := by
  rw [chargedDistance, overrideFor_none fun p names => (overrideNames_iff.1 names).2.2.2 rfl]
  simp [geometricDistance, absDiff]

/-- The overlap of a territory with a span is the number of chainages in both. -/
theorem card_overlap (m : WordMem) (span : Span) (t : Nat) :
    (Finset.Ico (max (territoryFrom m t) span.lo) (min (territoryTo m t) span.hi)).card = overlapLength m span t :=
  Nat.card_Ico _ _

/-- Territories of one branch that do not overlap lie side by side in a span. -/
theorem sum_overlap_le {m : WordMem} (sound : territoriesSound m = true) (span : Span) :
    ∑ t ∈ (Finset.range (territoryCount m)).filter (fun t => territoryBranch m t = span.branch), overlapLength m span t ≤
      span.hi - span.lo := by
  obtain ⟨-, apart⟩ := territoriesSound_iff.1 sound
  simp only [← card_overlap]
  rw [← Finset.card_biUnion]
  · refine (Finset.card_le_card (t := Finset.Ico span.lo span.hi) fun x hx => ?_).trans_eq (Nat.card_Ico _ _)
    obtain ⟨t, -, inside⟩ := Finset.mem_biUnion.1 hx
    rw [Finset.mem_Ico] at inside ⊢
    omega
  · intro t ht u hu different
    rw [Finset.mem_coe, Finset.mem_filter, Finset.mem_range] at ht hu
    rw [Function.onFun, Finset.disjoint_left]
    intro x inT inU
    rw [Finset.mem_Ico] at inT inU
    exact apart t ht.1 u hu.1 different (ht.2.trans hu.2.symm) x ⟨by omega, by omega⟩

theorem spanOwned_eq (m : WordMem) (k : Nat) (span : Span) : spanOwned m k span =
    ∑ t ∈ (Finset.range (territoryCount m)).filter (fun t => territoryBranch m t = span.branch),
      if territoryOperator m t = k then overlapLength m span t else 0 := by
  rw [Finset.sum_filter, spanOwned, ← List.sum_toFinset _ List.nodup_range, List.toFinset_range]
  refine Finset.sum_congr rfl fun t _ => ?_
  by_cases branch : territoryBranch m t = span.branch <;> simp [branch]

/-- Operators 1 to 3 own no more of a span than its length. -/
theorem spanOwned_le {m : WordMem} (sound : territoriesSound m = true) (span : Span) :
    spanOwned m 1 span + spanOwned m 2 span + spanOwned m 3 span ≤ span.hi - span.lo := by
  refine le_trans ?_ (sum_overlap_le sound span)
  rw [spanOwned_eq, spanOwned_eq, spanOwned_eq, ← Finset.sum_add_distrib, ← Finset.sum_add_distrib]
  refine Finset.sum_le_sum fun t _ => ?_
  split_ifs <;> omega

theorem ownedByOther_le (m : WordMem) (spans : List Span) (k : Nat) :
    ownedByOther m spans k ≤ (spans.map (spanOwned m k)).sum := by
  rw [ownedByOther]
  split
  · exact le_rfl
  · exact Nat.zero_le _

theorem ownedByOthers_le {m : WordMem} (sound : territoriesSound m = true) (spans : List Span) :
    ownedByOther m spans 1 + ownedByOther m spans 2 + ownedByOther m spans 3 ≤ pathLength spans := by
  have each : (spans.map (spanOwned m 1)).sum + (spans.map (spanOwned m 2)).sum + (spans.map (spanOwned m 3)).sum ≤
      pathLength spans := by
    rw [← List.sum_map_add, ← List.sum_map_add, pathLength]
    exact List.sum_le_sum fun span _ => spanOwned_le sound span
  have := ownedByOther_le m spans 1
  have := ownedByOther_le m spans 2
  have := ownedByOther_le m spans 3
  omega

/-- Settles O44: the path, the fold, the owned lengths, and the two cases of a division. -/
theorem pathLengthIsTheGeometricDistance : Obligations.PathLengthIsTheGeometricDistance := by
  refine ⟨fun m s t => ⟨pathLength_pathSpans m s t, geometricDistance_comm m s t, chargedDistance_comm m s t,
    chargedDistance_le m s t, chargedDistance_self m s⟩, fun channels d four => ?_, fun m a z => ?_,
    fun m channels journey r amount => ?_⟩
  · obtain ⟨x, y, z, u, rfl⟩ : ∃ x y z u, d = [x, y, z, u] := by
      match d, four with
      | [x, y, z, u], _ => exact ⟨x, y, z, u, rfl⟩
    refine ⟨?_, rfl, fun k low high => ?_⟩
    · simp only [foldChannels, List.getD_cons_zero, List.getD_cons_succ, List.sum_cons, List.sum_nil]
      split_ifs <;> omega
    · interval_cases k <;> rfl
  · intro spans d
    refine ⟨rfl, fun k low high => ?_, rfl, fun sound => ?_⟩
    · have owned : d.getD k 0 = ownedByOther m spans k := by interval_cases k <;> rfl
      rw [owned, ownedByOther]
      by_cases inForce : k < operatorCount m
      · rw [if_pos inForce, if_neg (Nat.not_le.2 inForce)]
        rfl
      · rw [if_neg inForce, if_pos (Nat.not_lt.1 inForce)]
    · have others := ownedByOthers_le sound spans
      simp only [d, ownedLengths, List.sum_cons, List.sum_nil]
      omega
  · intro spans shares
    refine ⟨fun long => if_neg (Nat.ne_of_gt long), fun none => ?_⟩
    intro leg owner
    have station : stationOwner m (zeroPathStation journey) = owner := by cases journey <;> rfl
    have undivided : shares = [⟨if owner = 0 ∨ channels.getLsbD owner then owner else 0, amount⟩] := by
      rw [← station]
      exact if_pos none
    rw [undivided]
    congr 2
    by_cases zero : owner = 0
    · simp [zero]
    · have : 1 ≤ owner := Nat.one_le_iff_ne_zero.2 zero
      cases channel : channels.getLsbD owner <;> simp [zero, this]

end Sys2Proof.Machine
end


section
/-!
Requests answered at once: SET TIME (R133), the clear of a segment from its tests to its completion (R139, R140), the
Sweeper's three requests (R111 to R113), READ TOKEN and the read that waits (R79, R175), and the requests of R176, R177,
R180 and R182.
-/
namespace Sys2Proof.Machine

open Sys2Proof

section Requests

variable {s : State} {code entry : Nat} {f : Frame}

/-! ### SET TIME (R132, R133) -/

/-- The state in which SET TIME hands its trigger: the clock is set and the reply entry reserved. -/
def State.clockSet (s : State) (entry : Nat) (f : Frame) (v : LineTime) : State :=
  { s with clock := s.clock.setTime v, office := s.officeReserved entry f }

theorem exec_setTime (taken : s.takes 2 entry f) : exec .setTime s = .next
    { (s.clockSet entry f (BitVec.ofNat 32 (fieldAt (argumentsOf f) 0 4))).timeTrigger
        (BitVec.ofNat 32 (fieldAt (argumentsOf f) 0 4)) with
      office := s.officeAnswered entry f .done
        (octetsOf32 s.clock.lineSeconds ++ octetsOf32 (BitVec.ofNat 32 (fieldAt (argumentsOf f) 0 4))) } := by
  show s.onRequest 2 State.setTime = _
  rw [State.onRequest_takes taken]
  refine congrArg _ (State.fillReply_taken taken ?_ _ _)
  simp [State.reserve_eq]

/-- Settles O52: the clock is set, and the trigger tests each bank and wakes the Matcher with the value set. -/
theorem setTimeSetsTheClock : Obligations.SetTimeSetsTheClock := by
  intro s entry f taken v
  have store := State.bank_timeTrigger (s.clockSet entry f v) v
  have matcher := State.matcher_timeTrigger (s.clockSet entry f v) v
  refine ⟨_, exec_setTime taken, ?frame, ?due, ?notDue, ?woken, ?asleep⟩
  case frame =>
    rw [State.timeTrigger_only]
    rfl
  case due =>
    intro b a outside scheduled time come
    exact (store b).trans ((if_pos ⟨rfl, outside⟩).trans (Bank.testSchedule_due scheduled time come))
  case notDue =>
    intro b h
    refine (store b).trans ?_
    split_ifs with tests
    · exact Bank.testSchedule_notDue (h.elim (absurd · tests.2) fun rest => rest.imp_right .inr)
    · rfl
  case woken =>
    intro waiting active
    exact matcher.trans (if_pos ⟨waiting, rfl, active⟩)
  case asleep =>
    intro h
    refine matcher.trans (if_neg ?_)
    rintro ⟨waiting, -, active⟩
    have none : s.activeBank = Option.none := h.elim (absurd waiting ·) id
    exact absurd active (by rw [show (s.clockSet entry f v).activeBank = s.activeBank from rfl, none]; simp)

/-! ### CLEAR SEGMENT and its completion (R139, R140) -/

theorem exec_clearSegment (taken : s.takes 4 entry f) : exec .clearSegment s =
    .next ((s.reserve entry f).clearSegmentRequest ⟨entry, frameSource f, argumentsOf f⟩) :=
  State.onRequest_takes taken _

theorem exec_clearSegment_refused (taken : s.takes 4 entry f) {status : Status}
    (refused : (s.reserve entry f).clearSegmentRequest ⟨entry, frameSource f, argumentsOf f⟩ =
      (s.reserve entry f).refuse ⟨entry, frameSource f, argumentsOf f⟩ status) :
    exec .clearSegment s = .next { s with office := s.officeAnswered entry f status [] } := by
  rw [exec_clearSegment taken, refused, State.refuse_taken taken]

/-- The state with the segment of a clear cleared and the clear ended (R140). -/
def State.segmentCleared (s : State) (c : Clear) : State :=
  { s with store :=
    { (s.store.setBank c.bank { s.bank c.bank with words := clearSegment (s.words c.bank) c.segment }) with
      clear := none } }

theorem State.completeClear_eq (s : State) (c : Clear) : s.completeClear c =
    { s.segmentCleared c with
      office := ((s.segmentCleared c).fillReply c.reply .done (bankOctets c.bank ++ natToOctets 1 c.segment)).office } :=
  rfl

theorem State.bank_completeClear (s : State) (c : Clear) : (s.completeClear c).bank c.bank =
    { s.bank c.bank with words := clearSegment (s.words c.bank) c.segment } := by
  obtain ⟨bank, segment, reached, reply⟩ := c
  cases bank <;> rfl

theorem State.bank_completeClear_other (s : State) (c : Clear) :
    (s.completeClear c).bank c.bank.other = s.bank c.bank.other := by
  obtain ⟨bank, segment, reached, reply⟩ := c
  cases bank <;> rfl

/-- The completion of a clear clears its segment and answers the request that asked for it (R140). -/
theorem exec_clearCompletion {c : Clear} (inFlight : s.store.clear = some c) :
    exec .clearCompletion s = .next (s.completeClear c) := by
  show execClearCompletion s = _
  rw [execClearCompletion, inFlight]

/-- Settles O54: the tests of R139 in their order, the taking, and the completion. -/
theorem clearsAreRefusedTakenAndCompleted : Obligations.ClearsAreRefusedTakenAndCompleted := by
  refine ⟨fun s entry f taken => ⟨fun bad => ?noBank, fun b names inside => ⟨fun busy => ?busy, fun idle frozen => ?frozen,
    fun idle staging => ?taken⟩⟩, fun s c r canonical inFlight reply => ?completed⟩
  case noBank =>
    refine exec_clearSegment_refused taken ?_
    rw [State.clearSegmentRequest]
    rcases bad with bank | segment
    · simp [bankOf_eq_none bank]
    · cases bankOf (octetAt (argumentsOf f) 0) <;> simp [segment]
  case busy =>
    refine exec_clearSegment_refused taken ?_
    have busy' : (s.reserve entry f).store.clear.isSome = true := busy
    simp [State.clearSegmentRequest, names, Nat.not_lt.2 inside, busy']
  case frozen =>
    have idle' : (s.reserve entry f).store.clear = none := idle
    have frozen' : ((s.reserve entry f).bank b).state ≠ .staging := frozen
    rw [exec_clearSegment taken]
    simp only [State.clearSegmentRequest, names, Nat.not_lt.2 inside, idle', if_false, Option.isSome_none, if_true,
      Bool.false_eq_true, frozen', ne_eq, not_false_iff]
    have answered := State.fillReply_taken (t := (s.reserve entry f).captureWrite
      ⟨entry, frameSource f, argumentsOf f⟩ .writeProtected b (1024 * (octetAt (argumentsOf f) 1).toNat)) taken rfl
      .isProtected []
    cases b <;> exact congrArg _ answered
  case taken =>
    have idle' : (s.reserve entry f).store.clear = none := idle
    have staging' : ((s.reserve entry f).bank b).state = .staging := staging
    rw [exec_clearSegment taken]
    simp only [State.clearSegmentRequest, names, Nat.not_lt.2 inside, idle', if_false, Option.isSome_none,
      Bool.false_eq_true, staging', ne_eq, not_true]
    rfl
  case completed =>
    have office := State.office_fillReply (s.segmentCleared c) .done (bankOctets c.bank ++ natToOctets 1 c.segment) reply
    have office := State.office_fillReply (s.segmentCleared c) .done (bankOctets c.bank ++ natToOctets 1 c.segment) reply
    have cleared := s.bank_completeClear c
    have words : (s.completeClear c).words c.bank = clearSegment (s.words c.bank) c.segment := congrArg Bank.words cleared
    refine ⟨_, exec_clearCompletion inFlight, ?_, rfl, (s.store.setBank_pointer c.bank _).1,
      (s.store.setBank_pointer c.bank _).2.1, ?_, s.bank_completeClear_other c, fun offset => ?_⟩
    · rw [State.completeClear_eq, office]
      cases c.bank <;> simp [bankOctets, natToOctets_one, State.segmentCleared, BankId.code]
    · rw [cleared, words]
    · rw [words, clearSegment, wordAt_clearRange]
      rfl

/-! ### The Sweeper's requests (R111 to R113) -/

theorem exec_sweepConfig (taken : s.takes 12 entry f) : exec .sweepConfig s =
    .next ((s.reserve entry f).sweepConfigRequest ⟨entry, frameSource f, argumentsOf f⟩) :=
  State.onRequest_takes taken _

theorem exec_sweepStart (taken : s.takes 13 entry f) : exec .sweepStart s =
    .next ((s.reserve entry f).sweepStartRequest ⟨entry, frameSource f, argumentsOf f⟩) :=
  State.onRequest_takes taken _

theorem exec_sweepStop (taken : s.takes 14 entry f) : exec .sweepStop s =
    .next ((s.reserve entry f).sweepStopRequest ⟨entry, frameSource f, argumentsOf f⟩) :=
  State.onRequest_takes taken _

/-- The octet 0 names SINGLE, 1 CONTINUOUS, and no other octet a mode (Table 9-9). -/
theorem modeOf_eq_some_iff {o : Octet} {mode : SweepMode} :
    modeOf o = some mode ↔ o = 0 ∧ mode = .single ∨ o = 1 ∧ mode = .continuous := by
  unfold modeOf
  split_ifs with single continuous
  · subst single
    simp [eq_comm]
  · subst continuous
    simp [eq_comm]
  · exact ⟨nofun, fun h => h.elim (absurd ·.1 single) (absurd ·.1 continuous)⟩

theorem modeOf_eq_none {o : Octet} (large : 2 ≤ o.toNat) : modeOf o = none := by
  rw [modeOf, if_neg (by rintro rfl; simp at large), if_neg (by rintro rfl; simp at large)]

theorem ofNat_code_of_modeOf {o : Octet} {mode : SweepMode} (names : modeOf o = some mode) :
    natToOctets 1 mode.code = [o] := by
  rw [natToOctets_one]
  rcases modeOf_eq_some_iff.1 names with ⟨rfl, rfl⟩ | ⟨rfl, rfl⟩ <;> rfl

/-- A pause of two octets is 0 exactly where its field is (R111). -/
theorem clampPause_eq (n : Nat) (small : n < 65536) :
    clampPause (BitVec.ofNat 16 n) = if n = 0 then 1 else BitVec.ofNat 16 n := by
  have zero : BitVec.ofNat 16 n = 0 ↔ n = 0 := by
    rw [← BitVec.toNat_inj, BitVec.toNat_ofNat, Nat.mod_eq_of_lt small]
    rfl
  simp only [clampPause, zero]

/-- So many octets hold a number below that power of 256. -/
theorem octetsToNat_lt (d : List Octet) : octetsToNat d < 256 ^ d.length := by
  induction d using List.reverseRecOn with
  | nil => simp [octetsToNat]
  | append_singleton d o ih =>
    have low : o.toNat < 256 := o.isLt
    rw [octetsToNat_append, List.length_append, List.length_singleton, Nat.pow_succ]
    omega

/-- A field of two octets is below 65536. -/
theorem fieldAt_two_lt (d : List Octet) (i : Nat) : fieldAt d i 2 < 65536 := by
  have high := octetsToNat_lt ((d.drop i).take 2)
  have short : ((d.drop i).take 2).length ≤ 2 := List.length_take_le 2 _
  calc fieldAt d i 2 < 256 ^ ((d.drop i).take 2).length := high
    _ ≤ 256 ^ 2 := Nat.pow_le_pow_right (by norm_num) short

/-- Settles O58: the three requests, each by the Sweeper's state. -/
theorem sweepRequestsSteerTheSweeper : Obligations.SweepRequestsSteerTheSweeper := by
  refine ⟨fun s entry f => ⟨fun taken => ⟨fun works => ?_, fun idle bad => ?_, fun mode idle inside names => ?_⟩,
    fun taken => ⟨fun works => ?_, fun idle => ?_⟩⟩, fun s entry f taken => ?_⟩
  · rw [exec_sweepConfig taken, State.sweepConfigRequest, if_pos (by exact works), State.refuse_taken taken]
  · rw [exec_sweepConfig taken, State.sweepConfigRequest, if_neg (by exact not_not.2 idle)]
    rcases bad with mode | outside
    · rw [modeOf_eq_none mode]
      exact congrArg _ (State.refuse_taken taken _)
    · have refused : s.bucketCount ≤ fieldAt (argumentsOf f) 3 2 := outside
      cases modeOf (octetAt (argumentsOf f) 0)
      · exact congrArg _ (State.refuse_taken taken _)
      · exact congrArg _ ((if_pos refused).trans (State.refuse_taken taken _))
  · have names := modeOf_eq_some_iff.2 names
    rw [exec_sweepConfig taken, State.sweepConfigRequest, if_neg (by exact not_not.2 idle), names]
    refine congrArg _ ((if_neg (Nat.not_le.2 inside)).trans ((State.fillReply_taken taken rfl _ _).trans ?_))
    simp only [clampPause_eq _ (fieldAt_two_lt _ 1), sweepConfigData, ofNat_code_of_modeOf names]
    rfl
  · rw [exec_sweepStart taken, State.sweepStartRequest, if_pos (by exact works), State.refuse_taken taken]
  · rw [exec_sweepStart taken, State.sweepStartRequest, if_neg (by exact not_not.2 idle), State.beginBurst_eq]
    exact ⟨_, rfl, State.fillReply_taken taken rfl _ _, rfl⟩
  · rw [exec_sweepStop taken, State.sweepStopRequest]
    have entered : ∀ w, ((s.reserve entry f).setSweep w).answer ⟨entry, frameSource f, argumentsOf f⟩ .done [] =
        { s with sweeper := { s.sweeper with state := w }, office := s.officeAnswered entry f .done [] } :=
      fun w => State.fillReply_taken taken rfl .done []
    have stays := entered s.sweeper.state
    have stays' : (s.reserve entry f).setSweep s.sweeper.state = s.reserve entry f := rfl
    rw [stays'] at stays
    clear stays'
    refine ⟨fun h => ?_, fun h => ?_, fun h => ?_, fun h => ?_, fun h => ?_, fun h => ?_⟩ <;>
      rw [show (s.reserve entry f).sweeper.state = _ from h]
    · rw [h] at stays
      exact congrArg _ stays
    · exact congrArg _ (entered .stopping)
    · rw [h] at stays
      exact congrArg _ stays
    · exact congrArg _ (entered .idle)
    · exact congrArg _ (State.refuse_taken taken _)
    · refine congrArg _ ((State.fillReply_taken taken ?_ _ _).trans ?_)
      · rw [State.returnSweeperSlot_eq]
        rfl
      · rw [State.returnSweeperSlot_eq]
        rfl

/-! ### SET CHANNELS, CLEAR FAULT, ASSIST EXIT, RESTART and the requests refused (R170, R171, R176, R177, R180, R182) -/

/-- An answer to the request whose entry was just reserved changes the Office Port alone. -/
theorem State.fillReply_reserved {t : State} (free : freePlace ReplyEntry.state s.office.replies = some entry)
    (ht : t.office = s.officeReserved entry f) (x : Status) (d : List Octet) :
    t.fillReply entry x d = { t with office := s.officeAnswered entry f x d } := by
  obtain ⟨p, place, -⟩ := freePlace_some free
  obtain ⟨low, -⟩ := List.getElem?_eq_some_iff.1 place
  have office : (t.fillReply entry x d).office = s.officeAnswered entry f x d := by
    rw [State.office_fillReply t (r := entryFor f .taken .done []) x d]
    · simp [ht, State.officeReserved, State.officeAnswered, OfficePort.taken, entryFor]
    · simp [ht, State.officeReserved, OfficePort.taken, low]
  rw [← office]
  rfl

/-- A payload that fails the Responder's checks is refused (R171). -/
theorem exec_unknownRequest (idle : s.responder.inWork = none) (noRestart : s.responder.restartPending = none)
    (next : s.office.intake.head? = some f) (free : freePlace ReplyEntry.state s.office.replies = some entry)
    (unknown : requestKnown (framePayload f) = false) :
    exec .unknownRequest s = .next ((s.reserve entry f).fillReply entry .badArgument []) := by
  obtain ⟨rest, intake⟩ := List.head?_eq_some_iff.1 next
  have takes : s.nextRequest = some (entry, f) := by rw [State.nextRequest, idle, noRestart, intake, free]
  show execUnknownRequest s = _
  simp [execUnknownRequest, takes, unknown]

/-- The Responder takes no request while one is in work or a restart is pending, nor without a frame and a free reply
entry (R170, R182). -/
theorem State.nextRequest_eq_none (h : s.responder.inWork ≠ none ∨ s.responder.restartPending ≠ none ∨
    s.office.intake = [] ∨ freePlace ReplyEntry.state s.office.replies = none) : s.nextRequest = none := by
  rw [State.nextRequest]
  split
  · next idle noRestart intake free => simp [idle, noRestart, intake, free] at h
  · rfl

theorem exec_requestCommand_idle (idle : s.nextRequest = none) {c : Instr} (request : c ∈ requestCommands) :
    exec c s = .next s := by
  have rows := fun code handle => State.onRequest_idle idle code handle
  have unknown : execUnknownRequest s = .next s := by rw [execUnknownRequest, idle]
  simp only [requestCommands, List.mem_cons, List.not_mem_nil, or_false] at request
  rcases request with rfl | rfl | rfl | rfl | rfl | rfl | rfl | rfl | rfl | rfl | rfl | rfl | rfl | rfl | rfl | rfl |
    rfl | rfl | rfl | rfl | rfl <;>
    simp only [exec, execStatus, execSetTime, execSetTrim, execClearSegment, execWriteUnit, execWriteNext,
      execSetPointer, execReadUnit, execSchedule, execUnschedule, execReadBanks, execSweepConfig, execSweepStart,
      execSweepStop, execReadToken, execAssistExit, execSetChannels, execReadFault, execClearFault, execRestart, rows,
      unknown]

/-- Settles O60: each of the requests by its row, and every request command where none can be taken. -/
theorem otherRequestsActAsTheirRules : Obligations.OtherRequestsActAsTheirRules := by
  intro s entry f
  refine ⟨fun taken => ?channels, fun taken => ?fault, fun taken => ?assist, fun taken => ?restart,
    fun idle noRestart next free unknown => ?unknown, fun c request h => ?idle⟩
  case channels =>
    show s.onRequest 17 State.setChannelsRequest = _
    rw [State.onRequest_takes taken, State.setChannelsRequest, State.answer, State.fillReply_taken taken rfl,
      natToOctets_one, BitVec.ofNat_toNat]
    rfl
  case fault =>
    show s.onRequest 19 State.clearFaultRequest = _
    rw [State.onRequest_takes taken, State.clearFaultRequest, State.answer, State.fillReply_taken taken rfl]
    rfl
  case assist => exact State.onRequest_takes taken _
  case restart =>
    refine ⟨_, State.onRequest_takes taken _, ?_⟩
    rw [State.restartRequest, State.answer, State.fillReply_taken taken rfl]
    rfl
  case unknown =>
    rw [exec_unknownRequest idle noRestart next free unknown, State.fillReply_reserved free rfl, State.reserve_eq]
  case idle => exact exec_requestCommand_idle (State.nextRequest_eq_none h) request

end Requests

end Sys2Proof.Machine
end


section
/-!
Where the fields of what is sent lie (Tables 9-1, 9-3 to 9-8): a field of octets put together is read behind or within
their first part, and from that each layout by the lengths of its parts.
-/
namespace Sys2Proof.Machine

open Sys2Proof

/-! ### Fields of octets put together -/

@[simp] theorem fieldAt_behind {a b : List Octet} {i n : Nat} (behind : a.length ≤ i) :
    fieldAt (a ++ b) i n = fieldAt b (i - a.length) n := by
  obtain ⟨k, rfl⟩ := Nat.exists_eq_add_of_le behind
  rw [fieldAt_append rfl, Nat.add_sub_cancel_left]

@[simp] theorem fieldAt_within {a b : List Octet} {i n : Nat} (within : i + n ≤ a.length) :
    fieldAt (a ++ b) i n = fieldAt a i n := by
  have start : i ≤ a.length := by omega
  rw [fieldAt, fieldAt, List.drop_append_of_le_length start, List.take_append_of_le_length (by simp; omega)]

@[simp] theorem fieldAt_cons {o : Octet} {b : List Octet} {i n : Nat} (behind : 1 ≤ i) :
    fieldAt (o :: b) i n = fieldAt b (i - 1) n := fieldAt_behind (a := [o]) behind

@[simp] theorem fieldAt_number (n v : Nat) : fieldAt (natToOctets n v) 0 n = v % 256 ^ n := by
  rw [← fieldAt_front n v [], List.append_nil]

@[simp] theorem fieldAt_octet (o : Octet) (b : List Octet) : fieldAt (o :: b) 0 1 = o.toNat := by
  simp [fieldAt, octetsToNat]

@[simp] theorem octetAt_behind {a b : List Octet} {i : Nat} (behind : a.length ≤ i) :
    octetAt (a ++ b) i = octetAt b (i - a.length) := by
  simp [octetAt, List.getElem?_append_right behind]

@[simp] theorem octetAt_within {a b : List Octet} {i : Nat} (within : i < a.length) : octetAt (a ++ b) i = octetAt a i := by
  simp [octetAt, List.getElem?_append_left within]

@[simp] theorem octetAt_cons {o : Octet} {b : List Octet} {i : Nat} (behind : 1 ≤ i) : octetAt (o :: b) i = octetAt b (i - 1) :=
  octetAt_behind (a := [o]) behind

@[simp] theorem octetAt_first (o : Octet) (b : List Octet) : octetAt (o :: b) 0 = o := rfl

/-- A leg is read at its place within what follows some octets. -/
@[simp] theorem legAt_behind {a b : List Octet} {i : Nat} {l : Leg} (behind : a.length ≤ i) :
    legAt (a ++ b) i l ↔ legAt b (i - a.length) l := by
  rw [legAt, legAt, octetAt_behind behind, octetAt_behind (by omega), fieldAt_behind (by omega)]
  simp only [Nat.sub_add_comm behind]

@[simp] theorem legAt_within {a b : List Octet} {i : Nat} {l : Leg} (within : i + 6 ≤ a.length) :
    legAt (a ++ b) i l ↔ legAt a i l := by
  rw [legAt, legAt, octetAt_within (by omega), octetAt_within (by omega), fieldAt_within (by omega)]

@[simp] theorem legAt_cons {o : Octet} {b : List Octet} {i : Nat} {l : Leg} (behind : 1 ≤ i) :
    legAt (o :: b) i l ↔ legAt b (i - 1) l := legAt_behind (a := [o]) behind

@[simp] theorem length_legOctets (l : Leg) : (legOctets l).length = 6 := by simp [legOctets, octetsOf32]

@[simp] theorem length_octetsOf16 (w : BitVec 16) : (octetsOf16 w).length = 2 := length_natToOctets 2 _
@[simp] theorem length_octetsOf32 (w : BitVec 32) : (octetsOf32 w).length = 4 := length_natToOctets 4 _
@[simp] theorem length_octetsOf64 (w : BitVec 64) : (octetsOf64 w).length = 8 := length_natToOctets 8 _
@[simp] theorem length_intToOctets (n : Nat) (v : Int) : (intToOctets n v).length = n := length_natToOctets n _
@[simp] theorem length_bankOctets (b : BankId) : (bankOctets b).length = 1 := length_natToOctets 1 _

@[simp] theorem fieldAt_octetsOf16 (w : BitVec 16) : fieldAt (octetsOf16 w) 0 2 = w.toNat :=
  (fieldAt_number 2 _).trans (Nat.mod_eq_of_lt w.isLt)

@[simp] theorem fieldAt_octetsOf32 (w : BitVec 32) : fieldAt (octetsOf32 w) 0 4 = w.toNat :=
  (fieldAt_number 4 _).trans (Nat.mod_eq_of_lt w.isLt)

@[simp] theorem fieldAt_octetsOf64 (w : BitVec 64) : fieldAt (octetsOf64 w) 0 8 = w.toNat :=
  (fieldAt_number 8 _).trans (Nat.mod_eq_of_lt w.isLt)

@[simp] theorem fieldAt_intToOctets (n : Nat) (v : Int) : fieldAt (intToOctets n v) 0 n = (v % (256 ^ n : Nat)).toNat := by
  have low : (v % (256 ^ n : Nat)).toNat < 256 ^ n := by
    have := Int.emod_lt_of_pos v (b := (256 ^ n : Nat)) (by positivity)
    omega
  exact (fieldAt_number n _).trans (Nat.mod_eq_of_lt low)

@[simp] theorem legAt_legOctets (l : Leg) : legAt (legOctets l) 0 l :=
  ⟨rfl, rfl, fieldAt_octetsOf32 l.time⟩

@[simp] theorem fieldAt_bankOctets (b : BankId) : fieldAt (bankOctets b) 0 1 = b.code := by cases b <;> rfl

/-- Three clear octets are the number 0. -/
@[simp] theorem fieldAt_zeros (b : List Octet) : fieldAt (0#8 :: 0#8 :: 0#8 :: b) 0 3 = 0 := rfl

/-! ### Codes fit their octet (Table 9-9) -/

@[simp] theorem bit_eq (b : Bool) : bit b % 256 = if b = true then 1 else 0 := by cases b <;> rfl

@[simp] theorem BankId.code_mod (b : BankId) : b.code % 256 = b.code := by cases b <;> rfl
@[simp] theorem BankState.code_mod (k : BankState) : k.code % 256 = k.code := by cases k <;> rfl
@[simp] theorem Readiness.code_mod (k : Readiness) : k.code % 256 = k.code := by cases k <;> rfl
@[simp] theorem SweepState.code_mod (k : SweepState) : k.code % 256 = k.code := by cases k <;> rfl
@[simp] theorem SweepMode.code_mod (k : SweepMode) : k.code % 256 = k.code := by cases k <;> rfl
@[simp] theorem FaultKind.code_mod (k : FaultKind) : k.code % 256 = k.code := by cases k <;> rfl
@[simp] theorem VerdictKind.code_mod (k : VerdictKind) : k.code % 256 = k.code := by cases k <;> rfl
@[simp] theorem Journey.code_mod (k : Journey) : k.code % 256 = k.code := by cases k <;> rfl
@[simp] theorem Reference.code_mod (k : Reference) : k.code % 256 = k.code := by cases k <;> rfl

theorem State.workCode_mod (s : State) : s.matcherStanding.code % 256 = s.workCode := by
  rw [← State.code_matcherStanding]
  cases s.matcherStanding <;> rfl

theorem State.fauCode_mod (s : State) : s.fauStanding.code % 256 = s.fauCode := by
  rw [← State.code_fauStanding]
  cases s.fauStanding <;> rfl

/-! ### The data of STATUS, READ FAULT and READ BANKS (Tables 9-5, 9-6 and 9-8) -/

theorem State.statusFields_statusData (s : State) : s.statusFields (statusData s) := by
  unfold State.statusFields statusData
  simp [State.workCode_mod, State.fauCode_mod]

theorem FaultCapture.fields_faultData (f : FaultCapture) : f.fields (faultData f) := by
  unfold FaultCapture.fields faultData
  simp

theorem TableStore.fields_banksData (t : TableStore) : t.fields (banksData t) := by
  unfold TableStore.fields banksData Bank.fields bankReport pointerOctets
  cases t.clear with
  | none => simp
  | some c => simp

/-! ### The data of READ TOKEN (Table 9-7) -/

@[simp] theorem length_openPartOctets (o : Option OpenPart) : (openPartOctets o).length = 9 := by
  cases o <;> simp [openPartOctets]

@[simp] theorem length_closingPartOctets (c : Option ClosingPart) : (closingPartOctets c).length = 22 := by
  cases c <;> simp [closingPartOctets]

@[simp] theorem length_recentPartOctets (p : Option RecentPart) : (recentPartOctets p).length = 14 := by
  cases p <;> simp [recentPartOctets]

theorem fieldAt_partsHeld (a b c : Bool) : let n := (bit a + 2 * bit b + 4 * bit c) % 256
    n.testBit 0 = a ∧ n.testBit 1 = b ∧ n.testBit 2 = c ∧ n < 8 := by
  cases a <;> cases b <;> cases c <;> decide

theorem fieldAt_openFlags (a b : Bool) : let n := (bit a + 2 * bit b) % 256
    n.testBit 0 = a ∧ n.testBit 1 = b ∧ n < 4 := by
  cases a <;> cases b <;> decide

theorem openPartOctets_some (o : OpenPart) (d : List Octet) (same : d = openPartOctets (some o)) :
    legAt d 0 o.entry ∧ octetAt d 6 = o.cls ∧ fieldAt d 7 1 = o.bank.code ∧
      (fieldAt d 8 1).testBit 0 = o.timeClamped ∧ (fieldAt d 8 1).testBit 1 = o.late ∧ fieldAt d 8 1 < 4 := by
  subst same
  obtain ⟨clamped, late, range⟩ := fieldAt_openFlags o.timeClamped o.late
  simp [openPartOctets, -Nat.testBit_zero, clamped, late, range]

theorem closingPartOctets_some (c : ClosingPart) (d : List Octet) (same : d = closingPartOctets (some c)) :
    fieldAt d 0 1 = c.journey.code ∧ fieldAt d 1 2 = c.tag.toNat ∧ fieldAt d 3 1 = c.bank.code ∧ octetAt d 4 = c.cls ∧
      (∀ e, c.journey.entry? = some e → legAt d 5 e) ∧ (∀ x, c.journey.exit? = some x → legAt d 11 x) ∧
      (∀ n, c.journey.oldCharge? = some n → fieldAt d 17 2 = n.toNat) ∧ fieldAt d 19 1 = c.ref.code ∧
      flagBits (fieldAt d 20 2) c.flags := by
  subst same
  have flags := flagBits_toNat c.flags
  have small : c.flags.toNat % 65536 = c.flags.toNat := Nat.mod_eq_of_lt (flags.1.trans (by norm_num))
  simp +contextual [closingPartOctets, small, flags]

theorem recentPartOctets_some (p : RecentPart) (d : List Octet) (same : d = recentPartOctets (some p)) :
    legAt d 0 p.entry ∧ octetAt d 6 = p.cls ∧ fieldAt d 7 1 = p.bank.code ∧ fieldAt d 8 4 = p.expiryTime.toNat ∧
      fieldAt d 12 2 = p.charged.toNat := by
  subst same
  simp [recentPartOctets]

/-- The record of a READ TOKEN reply is laid out as Table 9-7 says, part by part. -/
theorem TokenRecord.fields_tokenRecordData (r : TokenRecord) : r.fields (tokenRecordData r) := by
  unfold TokenRecord.fields tokenRecordData octetsOf8
  have parts := fieldAt_partsHeld r.openPart.isSome r.closing.isSome r.recent.isSome
  simp only [List.append_assoc, List.cons_append, List.nil_append, BitVec.ofNat_eq_ofNat, List.length_append,
    length_octetsOf64, length_octetsOf16, List.length_cons, length_natToOctets, length_legOctets, length_octetsOf32,
    length_openPartOctets, length_closingPartOctets, length_recentPartOctets, Nat.reduceAdd, zero_add, Std.le_refl,
    fieldAt_within, fieldAt_octetsOf64, fieldAt_behind, tsub_self, fieldAt_octetsOf16, Nat.reduceLeDiff, Nat.reduceSub,
    octetAt_behind, octetAt_first, fieldAt_cons, fieldAt_number, pow_one, bit_eq, legAt_behind, Nat.one_le_ofNat,
    legAt_cons, Nat.add_one_sub_one, legAt_within, legAt_legOctets, fieldAt_octetsOf32, octetAt_cons, Nat.reduceLT,
    octetAt_within, true_and]
  refine ⟨parts, ?_, fun o held => openPartOctets_some o _ (by rw [held]), ?_, fun c held => ?_, ?_,
    fun p held => recentPartOctets_some p _ (by rw [held])⟩
  · intro absent
    rw [absent]
    rfl
  · intro absent
    rw [absent]
    rfl
  · obtain ⟨kind, tag, bank, cls, entry, exit, old, ref, flags⟩ := closingPartOctets_some c _ (congrArg closingPartOctets held)
    refine ⟨kind, tag, bank, cls, entry, exit, old, ref.trans ?_, flags⟩
    cases c.ref <;> rfl
  · intro absent
    rw [absent]
    rfl

/-! ### Frames and the payloads of VERDICT and SETTLEMENT (Tables 9-1, 9-3 and 9-4) -/

/-- A frame the engine builds, before its check. -/
def frameBody (kind dest source : Octet) (sequence : BitVec 16) (payload : List Octet) : List Octet :=
  [kind, dest, source] ++ natToOctets 2 sequence.toNat ++ natToOctets 2 payload.length ++ payload

theorem buildFrame_eq (kind dest source : Octet) (sequence : BitVec 16) (payload : List Octet) :
    buildFrame kind dest source sequence payload = frameBody kind dest source sequence payload ++
      natToOctets 2 (crc (frameBody kind dest source sequence payload)).toNat := rfl

theorem length_frameBody (kind dest source : Octet) (sequence : BitVec 16) (payload : List Octet) :
    (frameBody kind dest source sequence payload).length = 7 + payload.length := by
  simp [frameBody]
  omega

section Built

variable (kind dest source : Octet) (sequence : BitVec 16) (payload : List Octet)

theorem length_buildFrame : (buildFrame kind dest source sequence payload).length = 9 + payload.length := by
  rw [buildFrame_eq, List.length_append, length_frameBody, length_natToOctets]
  omega

theorem frameSequence_buildFrame : frameSequence (buildFrame kind dest source sequence payload) = sequence := by
  have small : sequence.toNat % 65536 = sequence.toNat := Nat.mod_eq_of_lt sequence.isLt
  unfold frameSequence buildFrame
  simp [small]

theorem frameLength_buildFrame (short : payload.length ≤ 1024) :
    frameLength (buildFrame kind dest source sequence payload) = payload.length := by
  have small : payload.length % 65536 = payload.length := Nat.mod_eq_of_lt (by omega)
  unfold frameLength buildFrame
  simp [small]

theorem framePayload_buildFrame : framePayload (buildFrame kind dest source sequence payload) = payload := by
  have header : ([kind, dest, source] ++ natToOctets 2 sequence.toNat ++ natToOctets 2 payload.length).length = 7 := by
    simp
  rw [framePayload, length_buildFrame, Nat.add_sub_cancel_left, buildFrame_eq, frameBody, List.append_assoc,
    List.drop_left' header, List.take_left' rfl]

/-- The check covers what stands before it and lies in the last two octets (R158). -/
theorem frameCheck_buildFrame : frameCheck (buildFrame kind dest source sequence payload) =
    (crc ((buildFrame kind dest source sequence payload).take (9 + payload.length - 2))).toNat := by
  have place : 9 + payload.length - 2 = 7 + payload.length := by omega
  have body := length_frameBody kind dest source sequence payload
  rw [frameCheck, length_buildFrame, place, buildFrame_eq, List.take_left' body, fieldAt_behind body.le, body,
    Nat.sub_self, fieldAt_number, Nat.mod_eq_of_lt]
  exact BitVec.isLt _

theorem frameWellFormed_buildFrame (short : payload.length ≤ 1024) :
    frameWellFormed (buildFrame kind dest source sequence payload) = true := by
  rw [frameWellFormed, length_buildFrame, frameLength_buildFrame (short := short), frameCheck_buildFrame]
  simp [short]

end Built

/-- A list of parts of `k` octets each is read at `k` times the part's position. -/
theorem fieldAt_flatMap {α : Type} (g : α → List Octet) {k : Nat} (each : ∀ y, (g y).length = k) {i n : Nat}
    (within : i + n ≤ k) : ∀ (l : List α) (j : Nat) (x : α), l[j]? = some x →
      fieldAt (l.flatMap g) (k * j + i) n = fieldAt (g x) i n
  | y :: l, 0, x, found => by
    obtain rfl : y = x := by simpa using found
    rw [List.flatMap_cons, Nat.mul_zero, Nat.zero_add, fieldAt_within (by rw [each]; exact within)]
  | y :: l, j + 1, x, found => by
    have next : k * (j + 1) + i - k = k * j + i := by rw [Nat.mul_succ]; omega
    rw [List.flatMap_cons, fieldAt_behind (by rw [each, Nat.mul_succ]; omega), each, next]
    exact fieldAt_flatMap g each within l j x (by simpa using found)

theorem length_verdictEntryOctets (e : VerdictEntry) : (verdictEntryOctets e).length = 8 := by simp [verdictEntryOctets]

theorem verdictFields_verdictPayload (v : VerdictSlot) : verdictFields v (verdictPayload v) := by
  unfold verdictFields verdictPayload
  refine ⟨?_, by simp, fun i e kind found named => ?_⟩
  · simp [length_verdictEntryOctets, Nat.mul_comm]
  · have entry := fun {k n : Nat} (within : k + n ≤ 8) =>
      fieldAt_flatMap verdictEntryOctets length_verdictEntryOctets within v.entries i e found
    have placed : ∀ {k n : Nat}, k + n ≤ 8 →
        fieldAt (natToOctets 1 v.entries.length ++ v.entries.flatMap verdictEntryOctets) (1 + k + 8 * i) n =
          fieldAt (verdictEntryOctets e) k n := by
      intro k n within
      rw [show 1 + k + 8 * i = 1 + (8 * i + k) by omega, fieldAt_append (length_natToOctets 1 _), entry within]
    have flags := verdictBits_toNat e.flags
    have small : e.flags.toNat % 256 = e.flags.toNat := Nat.mod_eq_of_lt (flags.1.trans (by norm_num))
    rw [placed (k := 0) (by norm_num), placed (k := 1) (by norm_num), placed (k := 2) (by norm_num),
      placed (k := 6) (by norm_num)]
    simp [verdictEntryOctets, named, small, flags]

/-- The octets of one share (Table 9-4). -/
def shareOctets (h : Share) : List Octet := natToOctets 1 h.operator ++ intToOctets 4 h.amount

theorem length_shareOctets (h : Share) : (shareOctets h).length = 5 := by simp [shareOctets]

/-- A SETTLEMENT payload up to its shares. -/
def settlementHead (x : Settlement) : List Octet :=
  octetsOf32 x.serial ++ natToOctets 1 x.journey.code ++ natToOctets 2 x.flags.toNat ++ octetsOf64 x.token ++ [x.cls] ++
    legOctets ((x.journey.entry?).getD absentLeg) ++ [0] ++ legOctets ((x.journey.exit?).getD absentLeg) ++
    octetsOf32 x.version ++ natToOctets 2 x.distance ++ natToOctets 2 x.fare ++ intToOctets 4 x.amount ++
    octetsOf16 x.spentAfter ++ natToOctets 1 x.shares.length

theorem length_settlementHead (x : Settlement) : (settlementHead x).length = 44 := by simp [settlementHead]

theorem settlementPayload_eq (x : Settlement) : settlementPayload x = settlementHead x ++ x.shares.flatMap shareOctets :=
  rfl

theorem settlementFields_settlementPayload (x : Settlement) : settlementFields x (settlementPayload x) := by
  have flags := flagBits_toNat x.flags
  have small : x.flags.toNat % 65536 = x.flags.toNat := Nat.mod_eq_of_lt (flags.1.trans (by norm_num))
  have shares : ∀ j h, x.shares[j]? = some h → ∀ {k n : Nat}, k + n ≤ 5 →
      fieldAt (settlementPayload x) (44 + k + 5 * j) n = fieldAt (shareOctets h) k n := by
    intro j h found k n within
    rw [settlementPayload_eq, show 44 + k + 5 * j = 44 + (5 * j + k) by omega, fieldAt_append (length_settlementHead x),
      fieldAt_flatMap shareOctets length_shareOctets within x.shares j h found]
  have octets : (settlementPayload x).length = 44 + 5 * x.shares.length := by
    simp [settlementPayload_eq, length_settlementHead, length_shareOctets, Nat.mul_comm]
  have leg : ∀ l : Option Leg, legAt (legOctets (l.getD absentLeg)) 0 (l.getD ⟨255, 0, 0⟩) := fun _ => legAt_legOctets _
  refine ⟨octets, ?_, ?_, ?_, ?_, ?_, ?_, ?_, ?_, ?_, ?_, ?_, ?_, ?_, ?_, fun j h found => ?shares⟩
  case shares =>
    rw [shares j h found (k := 0) (by norm_num), shares j h found (k := 1) (by norm_num)]
    simp [shareOctets]
  all_goals
    unfold settlementPayload
    simp [small, flags]
  · exact leg _
  · exact leg _

/-- Settles O21: the built frame part by part, and the two payloads by their layouts. -/
theorem builtFramesReadBack : Obligations.BuiltFramesReadBack :=
  ⟨fun kind dest source sequence payload short => ⟨frameWellFormed_buildFrame kind dest source sequence payload short, rfl,
    rfl, rfl, frameSequence_buildFrame .., framePayload_buildFrame ..⟩, verdictFields_verdictPayload,
    settlementFields_settlementPayload, rfl, fun _ _ _ => rfl⟩

end Sys2Proof.Machine
end


section
/-!
The requests that read: STATUS, READ FAULT, READ BANKS and READ UNIT answer from the state as it stands (R138, R144,
R174, R180), and READ TOKEN reads its record while the bucket is free (R79, R175).
-/
namespace Sys2Proof.Machine

open Sys2Proof

section Reads

variable {s : State} {code entry : Nat} {f : Frame}

/-! ### STATUS, READ FAULT, READ BANKS, READ UNIT -/

/-- A STATUS reply says nothing of the Office Port. -/
theorem statusData_office (s : State) (p : OfficePort) : statusData { s with office := p } = statusData s := by
  have matcher : ({ s with office := p } : State).matcherStanding = s.matcherStanding := rfl
  have fau : ({ s with office := p } : State).fauStanding = s.fauStanding := rfl
  unfold statusData
  rw [matcher, fau]

theorem exec_status (taken : s.takes 1 entry f) :
    exec .status s = .next { s with office := s.officeAnswered entry f .done (statusData s) } := by
  show s.onRequest 1 (fun s q => s.answer q .done (statusData s)) = _
  rw [State.onRequest_takes taken, State.reserve_eq, statusData_office, State.answer, State.fillReply_taken taken rfl]

theorem exec_readFault (taken : s.takes 18 entry f) :
    exec .readFault s = .next { s with office := s.officeAnswered entry f .done (faultData s.responder.fault) } := by
  show s.onRequest 18 (fun s q => s.answer q .done (faultData s.responder.fault)) = _
  rw [State.onRequest_takes taken, State.reserve_eq, State.answer, State.fillReply_taken taken rfl]

theorem exec_readBanks (taken : s.takes 11 entry f) (still : ∀ c, s.store.clear = some c → c.segment ≠ 0) :
    exec .readBanks s = .next { s with office := s.officeAnswered entry f .done (banksData s.store) } := by
  have whole : (s.reserve entry f).store.clearingVersion = false := by
    show s.store.clearingVersion = false
    unfold TableStore.clearingVersion
    cases inFlight : s.store.clear with
    | none => rfl
    | some c => simpa using still c inFlight
  show s.onRequest 11 State.readBanksRequest = _
  rw [State.onRequest_takes taken, State.readBanksRequest, whole]
  exact congrArg _ (State.fillReply_taken taken rfl .done _)

theorem exec_readUnit (taken : s.takes 8 entry f) : exec .readUnit s =
    .next ((s.reserve entry f).readUnitRequest ⟨entry, frameSource f, argumentsOf f⟩) :=
  State.onRequest_takes taken _

theorem exec_readUnit_badArgument (taken : s.takes 8 entry f)
    (bad : 2 ≤ (octetAt (argumentsOf f) 0).toNat ∨ fieldAt (argumentsOf f) 1 2 % 4 ≠ 0 ∨
      16380 < fieldAt (argumentsOf f) 1 2) :
    exec .readUnit s = .next { s with office := s.officeAnswered entry f .badArgument [] } := by
  rw [exec_readUnit taken, ← State.refuse_taken taken, State.readUnitRequest]
  rcases bad with noBank | noUnit
  · rw [bankOf_eq_none noBank]
  · have notUnit : unitOffset (fieldAt (argumentsOf f) 1 2) = false := by
      rw [← Bool.not_eq_true, unitOffset_iff]
      omega
    cases bankOf (octetAt (argumentsOf f) 0) <;> simp [notUnit]

/-- A unit read, its offset named, is the unit as it stands, or BUSY where its segment is being cleared (R144). -/
theorem exec_readUnit_unit (taken : s.takes 8 entry f) {b : BankId} (names : bankOf (octetAt (argumentsOf f) 0) = some b)
    (aligned : fieldAt (argumentsOf f) 1 2 % 4 = 0) (inside : fieldAt (argumentsOf f) 1 2 ≤ 16380) :
    (s.store.clearing b (fieldAt (argumentsOf f) 1 2) = true →
      exec .readUnit s = .next { s with office := s.officeAnswered entry f .busy [] }) ∧
    (s.store.clearing b (fieldAt (argumentsOf f) 1 2) = false →
      (s.bank b).state ≠ .checking ∨ fieldAt (argumentsOf f) 1 2 < 1536 ∨ 1599 < fieldAt (argumentsOf f) 1 2 →
      exec .readUnit s = .next { s with
        office := s.officeAnswered entry f .done (unitOctets (s.words b) (fieldAt (argumentsOf f) 1 2)) }) := by
  have unit : unitOffset (fieldAt (argumentsOf f) 1 2) = true := unitOffset_iff.2 ⟨aligned, inside⟩
  refine ⟨fun clearing => ?_, fun still stands => ?_⟩
  · have clearing : (s.reserve entry f).store.clearing b (fieldAt (argumentsOf f) 1 2) = true := clearing
    rw [exec_readUnit taken, ← State.refuse_taken taken]
    simp [State.readUnitRequest, names, unit, clearing]
  · have still : (s.reserve entry f).store.clearing b (fieldAt (argumentsOf f) 1 2) = false := still
    have same : (if inDerivedArea (fieldAt (argumentsOf f) 1 2) = true then (s.reserve entry f).advanceCheck b
        else s.reserve entry f) = s.reserve entry f := by
      rcases stands with state | outside
      · have noCheck : (s.reserve entry f).advanceCheck b = s.reserve entry f := if_neg fun h => state h.1
        rw [noCheck, ite_self]
      · rw [inDerivedArea_of_outside (by omega)]
        rfl
    rw [exec_readUnit taken]
    simp only [State.readUnitRequest, names, unit, still, same, if_true, Bool.false_eq_true, if_false]
    exact congrArg _ (State.fillReply_taken taken rfl .done _)

/-- Settles O51: the layouts of the data, the codes, and each request's answer from the state as it stands. -/
theorem readingRequestsChangeNothing : Obligations.ReadingRequestsChangeNothing := by
  intro s entry f
  refine ⟨s.statusFields_statusData, s.store.fields_banksData, s.responder.fault.fields_faultData,
    ⟨rfl, rfl, rfl, rfl, rfl, rfl⟩, exec_status, exec_readFault, exec_readBanks, fun taken => ?_⟩
  refine ⟨exec_readUnit_badArgument taken, fun b names aligned inside => ?_⟩
  obtain ⟨busy, read⟩ := exec_readUnit_unit taken names aligned inside
  refine ⟨busy, fun still stands => (read still stands).trans ?_⟩
  simp [unitOctets, List.range_succ]

/-! ### READ TOKEN (R79, R175) -/

theorem exec_readToken (taken : s.takes 15 entry f) : exec .readToken s =
    .next ((s.reserve entry f).readTokenRequest ⟨entry, frameSource f, argumentsOf f⟩) :=
  State.onRequest_takes taken _

/-- The read of a token's record, answered at once to the request just taken. -/
theorem State.readRecord_taken (taken : s.takes code entry f) (token : Token) :
    (s.reserve entry f).readRecord token entry = { s with
      office := match s.lookup (s.bucketOf token) token with
        | some (_, r) => s.officeAnswered entry f .done (tokenRecordData r)
        | none => s.officeAnswered entry f .notFound [] } := by
  have same : (s.reserve entry f).lookup ((s.reserve entry f).bucketOf token) token =
      s.lookup (s.bucketOf token) token := rfl
  rw [State.readRecord, same]
  cases s.lookup (s.bucketOf token) token with
  | none => exact State.fillReply_taken taken rfl _ _
  | some found => exact State.fillReply_taken taken rfl _ _

/-- A request for the record of a token while its bucket is free (R79, R175). -/
theorem exec_readToken_free (taken : s.takes 15 entry f) (named : tokenArgument (argumentsOf f) ≠ 0)
    (started : s.matcher.readiness ≠ .starting)
    (free : s.holds.heldIn (s.bucketOf (tokenArgument (argumentsOf f))) = false) :
    exec .readToken s = .next ((s.reserve entry f).readRecord (tokenArgument (argumentsOf f)) entry) := by
  rw [exec_readToken taken, State.readTokenRequest]
  simp only [if_neg named]
  exact congrArg _ ((if_neg started).trans (if_neg (by rw [Bool.not_eq_true]; exact free)))

theorem State.token_of_lookup {b w : Nat} {token : Token} {r : TokenRecord} (found : s.lookup b token = some (w, r)) :
    r.token = token := by
  obtain ⟨-, -, same⟩ := State.lookup_some found
  exact same

/-- The read that waited fills its reply entry, and does nothing else (R79). -/
theorem State.readRecord_eq {e : ReplyEntry} (reply : s.office.replies[entry]? = some e) (token : Token) :
    s.readRecord token entry = { s with office := { s.office with
      replies := s.office.replies.set entry { e with
        state := .ready
        status := if (s.lookup (s.bucketOf token) token).isSome then .done else .notFound
        data := match s.lookup (s.bucketOf token) token with | some (_, r) => tokenRecordData r | none => [] }
      readyReplies := s.office.readyReplies ++ [entry] } } := by
  rw [State.readRecord]
  cases s.lookup (s.bucketOf token) token with
  | none => exact congrArg (fun p => { s with office := p }) (State.office_fillReply s .notFound [] reply)
  | some found =>
    exact congrArg (fun p => { s with office := p }) (State.office_fillReply s .done (tokenRecordData found.2) reply)

/-- The state once the read that waited is made and its request has ended. -/
def State.recordRead (s : State) (token : Token) (entry : Nat) : State :=
  { s.readRecord token entry with responder := { s.responder with inWork := none } }

theorem exec_tokenRecordRead {token : Token} (waits : s.responder.inWork = some (.readToken token entry)) :
    exec .tokenRecordRead s = if s.holds.heldIn (s.bucketOf token) = true then .next s
      else .next ((s.recordRead token entry).grantNext (s.bucketOf token)) := by
  show execTokenRecordRead s = _
  rw [execTokenRecordRead, waits]
  rfl

/-- Settles O59: the request by its tests, and the read that waited with the grant that follows it. -/
theorem readTokenReadsWithoutAHold : Obligations.ReadTokenReadsWithoutAHold := by
  refine ⟨fun s entry f taken => ⟨fun zero => ?_, fun named starting => ?_, fun named started free => ?_,
    fun named started held => ?_⟩, fun s token entry e waits reply => ⟨fun held => ?_, fun free => ?_⟩⟩
  · rw [exec_readToken taken, State.readTokenRequest]
    exact congrArg _ ((if_pos zero).trans (State.refuse_taken taken _))
  · rw [exec_readToken taken, State.readTokenRequest]
    exact congrArg _ ((if_neg named).trans ((if_pos starting).trans (State.refuse_taken taken _)))
  · have run := exec_readToken_free taken named started free
    rw [State.readRecord_taken taken] at run
    refine ⟨fun absent => ?_, fun w r found => ⟨?_, r.fields_tokenRecordData, State.token_of_lookup found⟩⟩
    · rw [tokenArgument, absent] at run
      exact run
    · rw [tokenArgument, found] at run
      exact run
  · rw [exec_readToken taken, State.readTokenRequest]
    exact congrArg _ ((if_neg named).trans ((if_neg started).trans (if_pos held)))
  · rw [exec_tokenRecordRead waits, if_pos held]
  · have run := exec_tokenRecordRead waits
    have read := State.readRecord_eq reply token
    have holds : (s.recordRead token entry).holds = s.holds := by rw [State.recordRead, read]
    have now : (s.recordRead token entry).heldNow (s.bucketOf token) = s.heldNow (s.bucketOf token) := by
      rw [State.recordRead, read]
      rfl
    have next := State.holds_grantNext (s.recordRead token entry) (s.bucketOf token)
    rw [holds, now] at next
    rw [if_neg (by simp [free])] at run
    refine ⟨_, run, ?_, fun fau => ?_, fun fau matcher => ?_, fun fau matcher sweeper => ?_, fun nobody => ?_⟩
    · exact (State.grantNext_only _ _).trans (congrArg (fun u : State => { u with
        responder := { s.responder with inWork := none }
        holds := ((s.recordRead token entry).grantNext (s.bucketOf token)).holds }) read)
    · rw [next, if_pos fau]
    · rw [next, if_neg fau, if_pos matcher]
    · rw [next, if_neg fau, if_neg matcher, if_pos sweeper]
    · obtain ⟨⟨fau, matcher⟩, sweeper⟩ : (s.holds.fau ≠ .waiting (s.bucketOf token) ∧
          s.holds.matcher ≠ .waiting (s.bucketOf token)) ∧ s.holds.sweeper ≠ .waiting (s.bucketOf token) := by
        simpa [Holds.waitedIn] using nobody
      rw [next, if_neg fau, if_neg matcher, if_neg sweeper]

end Reads

end Sys2Proof.Machine
end


section
/-!
The Expiry Sweeper's examinations (R116 to R121): a bucket with one open part, and a bucket without open parts, way by
way.
-/
namespace Sys2Proof.Machine

open Sys2Proof

section Examinations

variable {s : State} {b w : Nat} {read : Reading} {r : TokenRecord} {o : OpenPart} {now : LineTime}

theorem exec_sweepHoldGranted (held : s.holds.sweeper = .held b read)
    (burst : s.sweeper.state = .burst ∨ s.sweeper.state = .stopping) :
    exec .sweepHoldGranted s = .next (s.examineBucket b read.now) := by
  have works : s.sweeper.inBurst = true := by simpa [Sweeper.inBurst] using burst
  show execSweepHoldGranted s = _
  simp only [execSweepHoldGranted, held, works, if_true]

theorem ways_range (low : w < 8) : List.range 8 = List.range w ++ w :: List.range' (w + 1) (7 - w) := by
  have joined := List.range'_append_1 (s := 0) (m := w) (n := 7 - w + 1)
  rw [Nat.zero_add, ← List.range_eq_range', show w + (7 - w + 1) = 8 by omega, ← List.range_eq_range'] at joined
  exact joined.symm

/-- The ways of a bucket before and behind one of them. -/
theorem ways_split (low : w < 8) : ∃ front back, List.range Config.ways = front ++ w :: back ∧
    (∀ v ∈ front, v < 8 ∧ v < w) ∧ ∀ v ∈ back, v < 8 ∧ w < v := by
  refine ⟨List.range w, List.range' (w + 1) (7 - w), ways_range low, fun v hv => ?_, fun v hv => ?_⟩
  · have := List.mem_range.1 hv
    omega
  · have := List.mem_range'_1.1 hv
    omega

/-- Of a bucket whose other records all hold closing parts, one way alone is examined. -/
theorem State.examineWays_one (low : w < 8)
    (skipped : ∀ v < 8, v ≠ w → ∀ q, s.way b v = some q → q.closing.isSome = true) {u : State} {blocked : Bool}
    (way : s.examineWay b w now = (u, blocked)) (same : ∀ v, v ≠ w → u.way b v = s.way b v) :
    s.examineWays b now (List.range Config.ways) = (u, blocked) := by
  obtain ⟨front, back, split, before, behind⟩ := ways_split low
  rw [split, State.examineWays_skip b now s front (w :: back) fun v hv =>
    skipped v (before v hv).1 (Nat.ne_of_lt (before v hv).2), State.examineWays, way]
  cases blocked with
  | true => rfl
  | false =>
    have rest := State.examineWays_skip b now u back [] fun v hv q found =>
      skipped v (behind v hv).1 (Nat.ne_of_gt (behind v hv).2) q (same v (Nat.ne_of_gt (behind v hv).2) ▸ found)
    rw [List.append_nil] at rest
    exact rest

theorem State.examineWay_open (found : s.way b w = some r) (opened : r.openPart = some o) (noClosing : r.closing = none)
    (noRecent : r.recent = none) : s.examineWay b w now =
    if maxJourneyDuration (s.words o.bank) ≤ ageOf now o.entry.time then
      if s.sweeperSlotAtHand = true then (s.expire b w r o, false) else (s, true)
    else (s, false) := by
  simp [State.examineWay, found, noClosing, State.examineRecord, State.dropOverdue, noRecent, opened, openDue]

theorem State.sweeperSlotAtHand_iff : s.sweeperSlotAtHand = true ↔ 0 < s.slots.sweeperReserved ∨ 0 < s.freeSlots := by
  simp [State.sweeperSlotAtHand]

/-- The Sweeper that finds no slot for a due part releases the bucket, and waits for a slot or stops (R119). -/
theorem State.blocked_eq (full : s.freeSlots = 0) (b : Nat) : s.blocked b = { s with
    holds := s.sweeperReleased b
    sweeper := { s.sweeper with state := if s.sweeper.state = .stopping then .idle else .waitSlot }
    slots := if s.sweeper.state = .stopping then s.slots else { s.slots with sweeperRequest := .waiting } } := by
  rw [State.blocked, State.releaseHold_eq]
  by_cases stops : s.sweeper.state = .stopping
  · simp only [stops, if_true]
    rfl
  · simp only [stops, if_false, State.requestSweeperSlot]
    exact State.arbitrate_of_full _ full

/-- Settles O46: the one open part is examined, and by what it shows the bucket is fully examined or left. -/
theorem dueJourneysExpireOrWait : Obligations.DueJourneysExpireOrWait := by
  intro s b w read r o held burst low found opened noClosing noRecent skipped age due atHand part
  have run := exec_sweepHoldGranted held burst
  have way := State.examineWay_open (now := read.now) found opened noClosing noRecent
  have only := fun {u : State} {blocked : Bool} => State.examineWays_one (now := read.now) (u := u) (blocked := blocked)
    low skipped
  refine ⟨fun notDue => ?_, fun due atHand => ?_, fun due full => ?_⟩
  · rw [if_neg (by exact notDue)] at way
    rw [run, State.examineBucket, only way fun _ _ => rfl]
    exact congrArg _ (State.fullyExamined_eq s b)
  · rw [if_pos (by exact due), if_pos (State.sweeperSlotAtHand_iff.2 atHand)] at way
    have others : ∀ v, v ≠ w → (s.expire b w r o).way b v = s.way b v := fun v other =>
      State.way_putWay_ne s b w (some { r with openPart := none, closing := some (s.tagged (closeExpired o)) }) other
    rw [run, State.examineBucket, only way others]
    refine ⟨_, congrArg _ (State.fullyExamined_eq _ b), rfl, ?_, fun k other => ?_⟩
    · exact State.way_putWay_some s b w _
    · exact State.putWay_get_ne s b w
        (some { r with openPart := none, closing := some (s.tagged (closeExpired o)) }) other
  · have none : s.sweeperSlotAtHand = false := by
      rw [← Bool.not_eq_true, State.sweeperSlotAtHand_iff]
      exact full
    rw [if_pos (by exact due), none] at way
    have noneFree : s.freeSlots = 0 := Nat.eq_zero_of_not_pos fun free => full (.inr free)
    rw [run, State.examineBucket, only way fun _ _ => rfl]
    exact congrArg _ (State.blocked_eq noneFree b)

end Examinations

/-! ### A bucket without open parts (R116, R118, R120) -/

/-- Between `s` and `t` the Sweeper wrote the ways `ws` of bucket `b` and released `n k` references to each bank, and
did nothing else. -/
structure State.Swept (s t : State) (b : Nat) (ws : List Nat) (n : BankId → Nat) : Prop where
  only : t = { s with table := t.table, store := t.store }
  rising : sparseRising t.table
  others : ∀ k, (∀ w ∈ ws, k ≠ wayKey b w) → sparseGet t.table k = sparseGet s.table k
  banks : s.banksReleased t n

section Swept

variable {s t u : State} {b w : Nat} {now : LineTime} {ws vs : List Nat} {m n : BankId → Nat}

theorem State.banksReleased_none (s : State) (table : List (Nat × TokenRecord)) :
    s.banksReleased { s with table := table } fun _ => 0 := ⟨rfl, fun k => by simp [State.bank]⟩

theorem State.Swept.refl (rising : sparseRising s.table) : s.Swept s b ws fun _ => 0 :=
  ⟨rfl, rising, fun _ _ => rfl, s.banksReleased_none s.table⟩

theorem State.Swept.putWay (rising : sparseRising s.table) (r : Option TokenRecord) :
    s.Swept (s.putWay b w r) b [w] fun _ => 0 :=
  ⟨rfl, sparseRising_put _ _ _ rising, fun _ other => s.putWay_get_ne b w r (other w (List.mem_singleton_self w)),
    s.banksReleased_none _⟩

theorem State.Swept.releaseRef (rising : sparseRising s.table) (k : BankId) :
    s.Swept (s.releaseRef k) b ws fun j => if j = k then 1 else 0 :=
  ⟨rfl, rising, fun _ _ => rfl, s.banksReleased_releaseRef k⟩

theorem State.Swept.sweeper (swept : s.Swept t b ws n) : t.sweeper = s.sweeper := by rw [swept.only]

theorem State.Swept.words (swept : s.Swept t b ws n) (k : BankId) : t.words k = s.words k := by
  rw [State.words, swept.banks.2 k, State.words]

theorem State.Swept.way (swept : s.Swept t b ws n) {v : Nat} (other : v ∉ ws) : t.way b v = s.way b v :=
  swept.others _ fun w mem same => other ((show v = w by unfold wayKey at same; omega) ▸ mem)

theorem State.Swept.trans (first : s.Swept u b ws m) (second : u.Swept t b vs n) :
    s.Swept t b (ws ++ vs) fun k => m k + n k where
  only := by rw [second.only, first.only]
  rising := second.rising
  others k other := (second.others k fun w mem => other w (List.mem_append_right _ mem)).trans
    (first.others k fun w mem => other w (List.mem_append_left _ mem))
  banks := State.banksReleased_trans first.banks second.banks (by rw [State.inRestartPass, first.sweeper]; rfl)

/-- The record after its recent-expiry test, where that drops the part or keeps it (R118). -/
def TokenRecord.tested (r : TokenRecord) (drops : Bool) : TokenRecord := if drops then { r with recent := none } else r

theorem TokenRecord.openPart_tested (r : TokenRecord) (drops : Bool) : (r.tested drops).openPart = r.openPart := by
  cases drops <;> rfl

/-- The record as its examination leaves it where it holds no closing and no open part: an overdue recent-expiry part
is dropped, and a record that is then stale is freed (R118, R120). -/
def TokenRecord.swept (r : TokenRecord) (drops : Bool) (today : BitVec 16) : Option TokenRecord :=
  if (r.tested drops).stale today then none else some (r.tested drops)

theorem TokenRecord.swept_eq {r : TokenRecord} (noOpen : r.openPart = none) (noClosing : r.closing = none) (drops : Bool)
    (today : BitVec 16) : r.swept drops today =
      if (r.recent = none ∨ drops = true) ∧ r.spendDay ≠ today then none else some (r.tested drops) := by
  cases drops <;> simp [TokenRecord.swept, TokenRecord.tested, TokenRecord.stale, TokenRecord.partless, noOpen, noClosing]

/-- A way as its examination leaves it, where its record holds no open part. -/
def State.sweptWay (s : State) (now : LineTime) : Option TokenRecord → Option TokenRecord
  | none => none
  | some r => if r.closing.isSome then some r else r.swept (r.recent.any fun p => s.overdue now p) (dayOf now)

theorem State.sweptWay_rest {r : TokenRecord} (noClosing : r.closing = none) :
    s.sweptWay now (some r) = r.swept (r.recent.any fun p => s.overdue now p) (dayOf now) := by
  simp [State.sweptWay, noClosing]

/-- How many references to bank `k` the examination of way `w` releases. -/
def State.dropCount (s : State) (b : Nat) (now : LineTime) (w : Nat) (k : BankId) : Nat :=
  if s.dropsPart b now k w = true then 1 else 0

theorem State.recentOverdue_eq (s : State) (now : LineTime) (p : RecentPart) :
    recentOverdue (s.words p.bank) now p = s.overdue now p := by
  have usable : recentUsable (s.words p.bank) now p = !s.overdue now p := by
    rw [Bool.eq_iff_iff, recentUsable_iff]
    simp [State.overdue]
  simp [recentOverdue, usable]

/-- What the recent-expiry test does to a record without a closing part (R118). -/
theorem State.dropOverdue_swept {r : TokenRecord} (rising : sparseRising s.table) (found : s.way b w = some r)
    (noClosing : r.closing = none) :
    ∃ u, s.dropOverdue b w r now =
        (u, r.tested (r.recent.any fun p => s.overdue now p)) ∧
      s.Swept u b [w] (s.dropCount b now w) ∧
      u.way b w = some (r.tested (r.recent.any fun p => s.overdue now p)) := by
  cases recent : r.recent with
  | none =>
    have count : s.dropCount b now w = fun _ => 0 := by
      funext k
      simp [State.dropCount, State.dropsPart, found, recent]
    exact ⟨s, by simp [State.dropOverdue, recent, TokenRecord.tested], count ▸ .refl rising, by simpa [TokenRecord.tested] using found⟩
  | some p =>
    have count : s.dropCount b now w = fun k => if s.overdue now p = true then (if k = p.bank then 1 else 0) else 0 := by
      funext k
      simp [State.dropCount, State.dropsPart, found, recent, noClosing, eq_comm (a := p.bank), ite_and]
    rw [count]
    by_cases due : s.overdue now p = true
    · refine ⟨(s.putWay b w (some { r with recent := none })).releaseRef p.bank,
        by simp [State.dropOverdue, recent, State.recentOverdue_eq, due, TokenRecord.tested], ?_, ?_⟩
      · have put := State.Swept.putWay (b := b) (w := w) rising (some { r with recent := none })
        have both := put.trans (State.Swept.releaseRef (b := b) (ws := []) put.rising p.bank)
        simpa [due] using both
      · simp only [Option.any_some, due, TokenRecord.tested, if_true]
        exact s.way_putWay_some b w _
    · refine ⟨s, by simp [State.dropOverdue, recent, State.recentOverdue_eq, due, TokenRecord.tested], ?_, ?_⟩
      · simpa [due] using State.Swept.refl (b := b) (ws := [w]) rising
      · simpa [due, TokenRecord.tested] using found

/-- The examination of one way whose record holds no open part, or a closing part (Table 6-3). -/
theorem State.examineWay_swept (rising : sparseRising s.table)
    (noOpen : ∀ r, s.way b w = some r → r.closing = none → r.openPart = none) :
    ∃ t, s.examineWay b w now = (t, false) ∧ s.Swept t b [w] (s.dropCount b now w) ∧
      t.way b w = s.sweptWay now (s.way b w) := by
  cases found : s.way b w with
  | none =>
    have count : s.dropCount b now w = fun _ => 0 := by
      funext k
      simp [State.dropCount, State.dropsPart, found]
    exact ⟨s, by simp [State.examineWay, found], count ▸ .refl rising, found⟩
  | some r =>
    by_cases noClosing : r.closing = none
    case neg =>
      have holds : r.closing.isSome = true := Option.isSome_iff_ne_none.2 noClosing
      have count : s.dropCount b now w = fun _ => 0 := by
        funext k
        simp [State.dropCount, State.dropsPart, found, noClosing]
      exact ⟨s, by simp [State.examineWay, found, holds], count ▸ .refl rising, by simp [State.sweptWay, holds, found]⟩
    case pos =>
      obtain ⟨u, drop, swept, way⟩ := State.dropOverdue_swept (now := now) rising found noClosing
      have closed := noOpen r found noClosing
      have examined : s.examineWay b w now = s.examineRecord b w r now := by simp [State.examineWay, found, noClosing]
      rw [examined, State.sweptWay_rest noClosing, State.examineRecord, drop, TokenRecord.swept]
      simp only [TokenRecord.openPart_tested, closed]
      split_ifs with stale
      · refine ⟨_, rfl, ?_, State.way_putWay u b w none swept.rising⟩
        have both := swept.trans (State.Swept.putWay (b := b) (w := w) swept.rising none)
        exact ⟨both.only, both.rising, fun k other => both.others k fun v mem => other v (by simpa using mem),
          both.banks⟩
      · exact ⟨u, rfl, swept, way⟩

/-- The examination of some ways, no two of them the same, whose records hold no open part or a closing part. -/
theorem State.examineWays_swept : ∀ (ws : List Nat) (s : State), ws.Nodup → sparseRising s.table →
    (∀ w ∈ ws, ∀ r, s.way b w = some r → r.closing = none → r.openPart = none) →
    ∃ t, s.examineWays b now ws = (t, false) ∧
      s.Swept t b ws (fun k => (ws.filter (s.dropsPart b now k)).length) ∧
      ∀ w ∈ ws, t.way b w = s.sweptWay now (s.way b w)
  | [], s, _, rising, _ => ⟨s, rfl, .refl rising, by simp⟩
  | w :: ws, s, nodup, rising, noOpen => by
    obtain ⟨fresh, rest⟩ := List.nodup_cons.1 nodup
    obtain ⟨u, way, first, is⟩ := State.examineWay_swept (now := now) rising (noOpen w List.mem_cons_self)
    have same : ∀ v ∈ ws, u.way b v = s.way b v := fun v mem =>
      first.way (by rintro h; exact fresh (List.mem_singleton.1 h ▸ mem))
    have overdue : ∀ p, u.overdue now p = s.overdue now p := fun p => by rw [State.overdue, first.words, State.overdue]
    obtain ⟨t, ways, second, are⟩ := State.examineWays_swept ws u rest first.rising fun v mem r found =>
      noOpen v (List.mem_cons_of_mem _ mem) r (same v mem ▸ found)
    have counts : ∀ k, ws.filter (u.dropsPart b now k) = ws.filter (s.dropsPart b now k) := fun k =>
      List.filter_congr fun v mem => by simp only [State.dropsPart, same v mem, overdue]
    refine ⟨t, by rw [State.examineWays, way]; exact ways, ?_, ?_⟩
    · have both := first.trans second
      refine ⟨both.only, both.rising, both.others, ?_⟩
      convert both.banks using 2 with k
      rw [counts, State.dropCount, List.filter_cons]
      split_ifs <;> simp [Nat.add_comm]
    · rintro v (_ | ⟨_, mem⟩)
      · rw [second.way fresh, is]
      · rw [are v mem, same v mem]
        simp only [State.sweptWay, overdue]

end Swept

/-- Settles O45: the ways of the bucket as swept, and the ends of a full examination. -/
theorem examinationDropsAndFrees : Obligations.ExaminationDropsAndFrees := by
  intro s b read canonical burst held noOpen today
  obtain ⟨t, ways, swept, are⟩ := State.examineWays_swept (now := read.now) (b := b) (List.range 8) s List.nodup_range
    canonical.2.2 fun w mem => noOpen w (List.mem_range.1 mem)
  have ways : s.examineWays b read.now (List.range Config.ways) = (t, false) := ways
  have run := exec_sweepHoldGranted held burst
  rw [State.examineBucket, ways] at run
  refine ⟨_, run.trans (congrArg _ (State.fullyExamined_eq t b)), ?_, fun k outside => swept.others k fun w mem => ?_, swept.banks, fun w low => ?_⟩
  · rw [swept.only]
    rfl
  · have low := List.mem_range.1 mem
    have key : wayKey b w = 8 * b + w := rfl
    omega
  · have is : t.way b w = s.sweptWay read.now (s.way b w) := are w (List.mem_range.2 low)
    refine ⟨fun empty => is.trans (by rw [empty]; rfl), fun r found => ?_⟩
    intro overdue
    rw [found] at is
    have drops : (r.recent.any fun p => s.overdue read.now p) = true ↔ overdue := by
      cases recent : r.recent <;> simp [overdue, recent]
    have rest := fun (noClosing : r.closing = none) => is.trans ((State.sweptWay_rest noClosing).trans
      (TokenRecord.swept_eq (noOpen w low r found noClosing) noClosing _ (dayOf read.now)))
    refine ⟨fun closing => is.trans (if_pos closing), fun noClosing test other => (rest noClosing).trans ?_,
      fun noClosing due same => (rest noClosing).trans ?_, fun noClosing noRecent same => (rest noClosing).trans ?_,
      fun noClosing recent fresh => (rest noClosing).trans ?_⟩
    · exact if_pos ⟨test.imp_right drops.2, other⟩
    · rw [if_neg fun h => h.2 same, drops.2 due]
      rfl
    · rw [if_neg fun h => h.2 same, noRecent]
      rfl
    · have keeps : (r.recent.any fun p => s.overdue read.now p) = false := by
        rw [← Bool.not_eq_true, drops]
        exact fresh
      rw [keeps, if_neg (by simp [Option.isSome_iff_ne_none.1 recent])]
      rfl

end Sys2Proof.Machine
end


section
/-!
The two start passes (R122 to R125): what the end of a pass leaves, a bucket of the power-up pass, and a bucket of the
restart pass without or with one closing part ahead.
-/
namespace Sys2Proof.Machine

open Sys2Proof

section Passes

variable {s : State} {b w : Nat} {read : Reading}

/-! ### The end of a pass (R82, R110, R122, R154) -/

theorem Bank.settle_active_iff (k : Bank) : k.settle.state = .active ↔ k.state = .active := by
  unfold Bank.settle
  split_ifs with retired
  · simp [retired.1]
  · rfl

/-- The state at the end of a pass as the schedule is tested: the banks settled and the Sweeper with its defaults. -/
def State.passSettled (s : State) : State := { s with
  sweeper := { state := .idle }
  store := { s.store with bankA := s.store.bankA.settle, bankB := s.store.bankB.settle }
  slots := s.sweeperReturned }

theorem State.endStartPass_tested (s : State) : s.endStartPass =
    { s.passSettled.testSchedule s.clock.lineSeconds with matcher := { s.matcher with
      readiness := if s.clock.set = true ∧ s.activeBank.isSome = true then .ready else .waiting } } := by
  have active : (s.passSettled.testSchedule s.clock.lineSeconds).activeBank = s.activeBank := by
    rw [State.activeBank_testSchedule]
    simp [State.activeBank, State.passSettled, Bank.settle_active_iff]
  have clock : (s.passSettled.testSchedule s.clock.lineSeconds).clock = s.clock := (State.testSchedule_frame _ _).1
  have matcher : (s.passSettled.testSchedule s.clock.lineSeconds).matcher = s.matcher := by
    simp [State.passSettled]
  have shape : s.endStartPass = { s.passSettled.testSchedule s.clock.lineSeconds with matcher :=
      { (s.passSettled.testSchedule s.clock.lineSeconds).matcher with
        readiness := if (s.passSettled.testSchedule s.clock.lineSeconds).clock.set = true ∧
          (s.passSettled.testSchedule s.clock.lineSeconds).activeBank.isSome = true then .ready else .waiting } } := by
    rw [State.endStartPass, State.returnSweeperSlot_eq]
    rfl
  rw [shape, active, clock, matcher]

/-- The end of a pass as an equation. -/
theorem State.endStartPass_eq (s : State) : s.endStartPass = { s with
    store := s.endStartPass.store, slots := s.sweeperReturned, sweeper := { state := .idle }
    matcher := { s.matcher with
      readiness := if s.clock.set = true ∧ s.activeBank.isSome = true then .ready else .waiting } } := by
  rw [State.endStartPass_tested, State.testSchedule]
  split_ifs <;> rfl

theorem State.store_endStartPass (s : State) : s.endStartPass.store =
    { s.store with bankA := s.endStartPass.store.bankA, bankB := s.endStartPass.store.bankB } := by
  rw [State.endStartPass_tested, State.testSchedule]
  split_ifs <;> rfl

theorem State.bank_endStartPass (s : State) (k : BankId) : s.endStartPass.bank k =
    if s.clock.set = true then (s.bank k).settle.testSchedule s.clock.lineSeconds else (s.bank k).settle := by
  have settled : s.passSettled.bank k = (s.bank k).settle := by cases k <;> rfl
  have tested := s.passSettled.bank_testSchedule s.clock.lineSeconds k
  have outside : s.passSettled.clock.set = true ∧ s.passSettled.sweeper.state ≠ .startPass ↔ s.clock.set = true :=
    and_iff_left (by simp [State.passSettled])
  rw [settled] at tested
  simp only [outside] at tested
  rw [← tested, State.endStartPass_tested]
  rfl

/-- The pass after its last bucket (R122). -/
theorem State.nextPassBucket_last (last : s.bucketCount ≤ b + 1) :
    s.nextPassBucket b = { s with holds := s.sweeperReleased b }.endStartPass := by
  rw [State.nextPassBucket, State.releaseHold_eq]
  exact if_neg (Nat.not_lt.2 last)

/-! ### The power-up pass (R123) -/

theorem exec_powerUpStartPassBucket (held : s.holds.sweeper = .held b read) (pass : s.sweeper.state = .startPass)
    (kind : s.sweeper.passKind = .powerUp) :
    exec .powerUpStartPassBucket s = .next ({ s.emptyBucket b with dramWritten := b + 1 }.nextPassBucket b) := by
  show execPowerUpStartPassBucket s = _
  simp only [execPowerUpStartPassBucket, held, pass, kind, and_self, if_true]

theorem State.get_emptyBucket (s : State) (b k : Nat) : sparseGet (s.emptyBucket b).table k =
    if 8 * b ≤ k ∧ k < 8 * b + 8 then none else sparseGet s.table k := by
  have filtered := sparseGet_filter s.table (fun n => !(8 * b ≤ n && n < 8 * (b + 1))) k
  refine filtered.trans ?_
  split_ifs with h h' h' <;> simp_all <;> omega

theorem State.table_nextPassBucket (s : State) (b : Nat) : (s.nextPassBucket b).table = s.table := by
  by_cases more : b + 1 < s.bucketCount
  · rw [State.nextPassBucket_eq s b more]
  · rw [State.nextPassBucket_last (Nat.not_lt.1 more), State.endStartPass_eq]

/-! ### The restart pass (R124, R125) -/

/-- The Sweeper is in a restart's start pass and holds a bucket that a pass has written. -/
structure State.InRestartBucket (s : State) (b : Nat) (read : Reading) : Prop where
  held : s.holds.sweeper = .held b read
  pass : s.sweeper.state = .startPass
  kind : s.sweeper.passKind = .restart
  written : b < s.dramWritten

theorem exec_restartStartPassBucket (bucket : s.InRestartBucket b read) : exec .restartStartPassBucket s =
    .next (s.restartPassBucket b) := by
  have inPass : s.inRestartPass = true := by simp [State.inRestartPass, bucket.pass, bucket.kind]
  show execRestartStartPassBucket s = _
  simp only [execRestartStartPassBucket, bucket.held, inPass, if_true]

/-- Every way ahead is passed: the pass goes on to the next bucket. -/
theorem exec_restartStartPassBucket_passed (bucket : s.InRestartBucket b read) {u : State}
    (ways : s.passWays b (waysFrom s.sweeper.passWay) = (u, none)) :
    exec .restartStartPassBucket s = .next (u.nextPassBucket b) := by
  have filled : s.fillUndefined b = s := if_pos bucket.written
  rw [exec_restartStartPassBucket bucket, State.restartPassBucket, filled, ways]

/-- A way whose closing part finds no slot: the hold is released, and the pass notes the way and waits (R124). -/
theorem exec_restartStartPassBucket_blocked (bucket : s.InRestartBucket b read) {u : State}
    (ways : s.passWays b (waysFrom s.sweeper.passWay) = (u, some w)) (full : u.freeSlots = 0) :
    exec .restartStartPassBucket s = .next { u with
      holds := u.sweeperReleased b, slots := { u.slots with sweeperRequest := .waiting }
      sweeper := { u.sweeper with passWay := w } } := by
  have filled : s.fillUndefined b = s := if_pos bucket.written
  rw [exec_restartStartPassBucket bucket, State.restartPassBucket, filled, ways]
  have released := State.releaseHold_eq u .sweeper b
  refine congrArg _ ?_
  dsimp only
  rw [released]
  exact State.arbitrate_of_full _ full

/-- Without a clock SET or without an ACTIVE bank the Matcher waits (R82). -/
theorem State.not_ready (h : s.clock.set = false ∨ s.activeBank = none) :
    ¬(s.clock.set = true ∧ s.activeBank.isSome = true) := by
  rintro ⟨set, active⟩
  rcases h with unset | none
  · simp [unset] at set
  · simp [none] at active

theorem State.store_makeRef (s : State) (k : BankId) : (s.makeRef k).store =
    { s.store with bankA := (s.makeRef k).store.bankA, bankB := (s.makeRef k).store.bankB } := by
  cases k <;> rfl

theorem State.store_countParts (s : State) (r : TokenRecord) : (s.countParts r).store =
    { s.store with bankA := (s.countParts r).store.bankA, bankB := (s.countParts r).store.bankB } := by
  unfold State.countParts
  cases r.openPart with
  | none =>
    cases r.recent with
    | none => rfl
    | some p => exact s.store_makeRef p.bank
  | some o =>
    cases r.recent with
    | none => exact s.store_makeRef o.bank
    | some p =>
      have second := (s.makeRef o.bank).store_makeRef p.bank
      rw [s.store_makeRef] at second
      exact second

/-- A closing part resubmitted and the parts of its record counted. -/
theorem State.store_resubmitted (s : State) (b w : Nat) (r : TokenRecord) (c : ClosingPart) :
    ((s.resubmit b w r c).countParts r).store = { s.store with
      bankA := ((s.resubmit b w r c).countParts r).store.bankA
      bankB := ((s.resubmit b w r c).countParts r).store.bankB } := by
  have counted := (s.resubmit b w r c).store_countParts r
  have made : (s.resubmit b w r c).store = { s.store with
      bankA := (s.resubmit b w r c).store.bankA, bankB := (s.resubmit b w r c).store.bankB } :=
    State.store_makeRef _ _
  rw [made] at counted
  exact counted

/-- A pass over ways changes the banks alone of the Table Store. -/
theorem State.store_passWays (b : Nat) : ∀ (ws : List Nat) (s : State), (s.passWays b ws).1.store =
    { s.store with bankA := (s.passWays b ws).1.store.bankA, bankB := (s.passWays b ws).1.store.bankB }
  | [], _ => rfl
  | w :: ws, s => by
    have way : (s.passWay b w).1.store =
        { s.store with bankA := (s.passWay b w).1.store.bankA, bankB := (s.passWay b w).1.store.bankB } := by
      unfold State.passWay
      split
      · split
        · split_ifs
          · exact State.store_resubmitted s b w _ _
          · rfl
        · exact State.store_countParts s _
      · rfl
    rw [State.passWays]
    cases passed : s.passWay b w with
    | mk u blocked =>
      rw [passed] at way
      cases blocked with
      | true => exact way
      | false =>
        have rest := State.store_passWays b ws u
        rw [way] at rest
        exact rest

/-- A bank at the end of a pass, settled and tested (R149, R154). -/
theorem Bank.settle_testSchedule (k : Bank) (set : Prop) [Decidable set] (now : LineTime) :
    (if set then k.settle.testSchedule now else k.settle) =
      let begins := k.state = .scheduled ∧ set ∧ (k.activation.any fun a => decide (a.toNat ≤ now.toNat)) = true
      { k with
        state := if k.state = .retiring ∧ k.refs = 0 then .staging else if begins then .checking else k.state
        derivedDone := if begins then 0 else k.derivedDone } := by
  obtain ⟨words, state, activation, checkCode, refs, derivedDone⟩ := k
  cases state <;> cases activation <;> by_cases none : refs = 0 <;> by_cases held : set <;>
    simp [Bank.settle, Bank.testSchedule, none, held] <;> split_ifs <;> rfl

/-- Which bank is ACTIVE goes by the banks' states alone. -/
theorem State.activeBank_counted {u : State} {n : BankId → Nat} (banks : ∀ k, u.bank k = { s.bank k with refs := n k }) :
    u.activeBank = s.activeBank := by
  have stateA : u.store.bankA.state = s.store.bankA.state := (congrArg Bank.state (banks .A) :)
  have stateB : u.store.bankB.state = s.store.bankB.state := (congrArg Bank.state (banks .B) :)
  rw [State.activeBank, State.activeBank, stateA, stateB]

/-- Settles O47: a bucket of either pass, and the end of each. -/
theorem startPassesWorkTheirBucket : Obligations.StartPassesWorkTheirBucket := by
  refine ⟨fun s b read held pass kind => ?_, fun s b read held pass kind way written noClosing => ?_⟩
  · have table := State.table_nextPassBucket { s.emptyBucket b with dramWritten := b + 1 } b
    refine ⟨_, exec_powerUpStartPassBucket held pass kind, fun w low => ?_, fun k outside => ?_, ?_, fun more => ?_,
      fun last => ?_⟩
    · rw [State.way, table]
      exact (s.get_emptyBucket b _).trans (if_pos (by unfold wayKey Config.ways; omega))
    · rw [table]
      exact (s.get_emptyBucket b k).trans (if_neg outside)
    · by_cases more : b + 1 < s.bucketCount
      · rw [State.nextPassBucket_eq _ b (by exact more)]
        exact ⟨rfl, rfl, rfl, rfl, rfl⟩
      · rw [State.nextPassBucket_last (by exact Nat.not_lt.1 more), State.endStartPass_eq]
        exact ⟨rfl, rfl, rfl, rfl, rfl⟩
    · rw [State.nextPassBucket_eq _ b (by exact more)]
      exact ⟨rfl, rfl, rfl, rfl, rfl⟩
    · rw [State.nextPassBucket_last (by exact last), State.endStartPass_eq]
      exact ⟨rfl, rfl, ⟨rfl, rfl, rfl, rfl, rfl, rfl, rfl⟩, fun set active => if_pos ⟨set, active⟩,
        fun h => if_neg (State.not_ready h)⟩
  · intro counted
    obtain ⟨u, ways, only, banks⟩ := State.passWays_counts b (List.range 8) s fun v mem => noClosing v (List.mem_range.1 mem)
    have all : waysFrom s.sweeper.passWay = List.range 8 := by rw [way]; rfl
    have run := exec_restartStartPassBucket_passed ⟨held, pass, kind, written⟩ (all ▸ ways)
    have store := State.store_passWays b (List.range 8) s
    rw [ways] at store
    refine ⟨fun more => ?_, fun last => ?_⟩
    · rw [State.nextPassBucket_eq u b (by rw [only]; exact more)] at run
      refine ⟨_, run, ?_, banks, store⟩
      rw [only]
      rfl
    · rw [State.nextPassBucket_last (by rw [only]; exact last)] at run
      have ended := State.store_endStartPass { u with holds := u.sweeperReleased b }
      refine ⟨_, run, ?_, ?_, fun k => ?_⟩
      · have active : ({ u with holds := u.sweeperReleased b } : State).activeBank = s.activeBank := State.activeBank_counted banks
        rw [State.endStartPass_eq, active, only]
        rfl
      · have pointerBank : u.store.pointerBank = s.store.pointerBank := (congrArg TableStore.pointerBank store :)
        have pointerOffset : u.store.pointerOffset = s.store.pointerOffset := (congrArg TableStore.pointerOffset store :)
        have clear : u.store.clear = s.store.clear := (congrArg TableStore.clear store :)
        exact ended.trans (by dsimp only; rw [pointerBank, pointerOffset, clear])
      · have bank := State.bank_endStartPass { u with holds := u.sweeperReleased b } k
        have clock : u.clock = s.clock := (congrArg State.clock only :)
        have counts : ({ u with holds := u.sweeperReleased b } : State).bank k = { s.bank k with refs := counted k } := banks k
        rw [counts] at bank
        refine bank.trans ?_
        show (if u.clock.set = true then _ else _) = _
        rw [clock]
        exact Bank.settle_testSchedule { s.bank k with refs := counted k } (s.clock.set = true) s.clock.lineSeconds

/-! ### A bucket with one closing part ahead (R124, R125) -/

theorem State.passWays_append (rest : List Nat) : ∀ (front : List Nat) {s u : State},
    s.passWays b front = (u, none) → s.passWays b (front ++ rest) = u.passWays b rest
  | [], s, u, passed => by
    obtain rfl : s = u := congrArg Prod.fst passed
    rfl
  | v :: front, s, u, passed => by
    rw [State.passWays] at passed
    rw [List.cons_append, State.passWays]
    cases way : s.passWay b v with
    | mk x blocked =>
      rw [way] at passed
      cases blocked with
      | true => exact absurd (congrArg Prod.snd passed) (by simp)
      | false => exact State.passWays_append rest front passed

/-- The closing part that the pass makes of one it resubmits (R27, R124). -/
def State.passPart (s : State) (c : ClosingPart) : ClosingPart :=
  { c with tag := s.fau.tag, ref := .none, flags := { c.flags with resubmitted := true } }

/-- The state after the pass has resubmitted the closing part of way `w` and counted the record's parts. -/
def State.partPassed (s : State) (b w : Nat) (r : TokenRecord) (c : ClosingPart) : State :=
  (s.resubmit b w r c).countParts r

theorem State.partPassed_eq (s : State) (b w : Nat) (r : TokenRecord) (c : ClosingPart) : s.partPassed b w r c = { s with
    table := (s.putWay b w (some { r with closing := some (s.passPart c) })).table
    store := (s.partPassed b w r c).store
    slots := { s.slots with sweeperReserved := s.slots.sweeperReserved - 1 }
    fau := { s.fau with
      tag := s.fau.tag + 1
      jobs := s.fau.jobs ++ [(s.passPart c).job r.token] } } := by
  rw [State.partPassed, (State.countParts_eq _ r).1]
  rfl

theorem State.bank_partPassed (s : State) (b w : Nat) {r : TokenRecord} {c : ClosingPart} (closing : r.closing = some c)
    (k : BankId) : (s.partPassed b w r c).bank k = { s.bank k with refs := (s.bank k).refs + r.namings k } := by
  have made : (s.resubmit b w r c).bank k =
      { s.bank k with refs := (s.bank k).refs + if c.bank = k then 1 else 0 } := State.bank_makeRef _ c.bank k
  rw [State.partPassed, (State.countParts_eq _ r).2 k, made]
  simp only [TokenRecord.namings, closing, Option.map_some, Option.some.injEq]
  congr 1
  omega

theorem State.get_partPassed (s : State) (b w : Nat) (r : TokenRecord) (c : ClosingPart) {k : Nat}
    (other : k ≠ wayKey b w) : sparseGet (s.partPassed b w r c).table k = sparseGet s.table k := by
  rw [State.partPassed_eq]
  exact s.putWay_get_ne b w (some { r with closing := some (s.passPart c) }) other

theorem State.way_partPassed (s : State) (b w : Nat) (r : TokenRecord) (c : ClosingPart) :
    (s.partPassed b w r c).way b w = some { r with closing := some (s.passPart c) } := by
  rw [State.partPassed_eq]
  exact s.way_putWay_some b w _

theorem State.passWay_closing {c : ClosingPart} {r : TokenRecord} (found : s.way b w = some r)
    (closing : r.closing = some c) :
    s.passWay b w = if s.sweeperSlotAtHand = true then (s.partPassed b w r c, false) else (s, true) := by
  rw [State.passWay, found]
  dsimp only
  rw [closing]
  rfl

theorem waysFrom_split {first : Nat} (ahead : first ≤ w) (low : w < 8) : waysFrom first =
    (List.range w).filter (fun v => first ≤ v) ++ w :: (List.range' (w + 1) (7 - w)).filter fun v => first ≤ v := by
  rw [waysFrom, show Config.ways = 8 from rfl, ways_range low, List.filter_append, List.filter_cons_of_pos (by simpa)]

theorem sum_map_filter (p : Nat → Bool) (f : Nat → Nat) (l : List Nat) :
    ((l.filter p).map f).sum = (l.map fun v => if p v = true then f v else 0).sum := by
  induction l with
  | nil => rfl
  | cons v l ih =>
    rw [List.filter_cons]
    split_ifs with keep <;> simp [keep, ih]

/-- Settles O48: the ways before the closing part, its own way, and the ways behind it. -/
theorem restartPassResubmitsClosingParts : Obligations.RestartPassResubmitsClosingParts := by
  intro s b w read r c held pass kind written ahead low found closing noClosing named atHand part
  have bucket : s.InRestartBucket b read := ⟨held, pass, kind, written⟩
  have split := waysFrom_split ahead low
  have front : ∀ v ∈ (List.range w).filter (fun v => decide (s.sweeper.passWay ≤ v)), ∀ q, s.way b v = some q →
      q.closing = none := by
    intro v mem
    obtain ⟨before, from_⟩ := List.mem_filter.1 mem
    have before := List.mem_range.1 before
    exact noClosing v (by omega) (of_decide_eq_true from_) (by omega)
  obtain ⟨u, passed, only, banks⟩ := State.passWays_counts b _ s front
  have way : u.way b w = some r := (State.way_congr (by rw [only]) b w).trans found
  have slotAtHand : u.sweeperSlotAtHand = s.sweeperSlotAtHand := by
    rw [only]
    rfl
  have closed := State.passWay_closing way closing
  rw [slotAtHand] at closed
  refine ⟨fun atHand more => ?_, fun full => ?_⟩
  · have behind : ∀ v ∈ (List.range' (w + 1) (7 - w)).filter (fun v => decide (s.sweeper.passWay ≤ v)),
        v < 8 ∧ s.sweeper.passWay ≤ v ∧ v ≠ w := by
      intro v mem
      obtain ⟨range, from_⟩ := List.mem_filter.1 mem
      have range := List.mem_range'_1.1 range
      exact ⟨by omega, of_decide_eq_true from_, by omega⟩
    have same : ∀ v, v ≠ w → (u.partPassed b w r c).way b v = s.way b v := fun v other =>
      (u.get_partPassed b w r c (by unfold wayKey; omega)).trans (State.way_congr (by rw [only]) b v)
    obtain ⟨x, rest, onlyRest, counted⟩ := State.passWays_counts b _ (u.partPassed b w r c) fun v mem q found => by
      obtain ⟨bound, from_, other⟩ := behind v mem
      exact noClosing v bound from_ other q (same v other ▸ found)
    have ways : s.passWays b (waysFrom s.sweeper.passWay) = (x, none) := by
      rw [split, State.passWays_append _ _ passed, State.passWays, closed, if_pos (State.sweeperSlotAtHand_iff.2 atHand)]
      exact rest
    have frame : x = { s with
        table := (s.putWay b w (some { r with closing := some part })).table
        store := x.store
        slots := { s.slots with sweeperReserved := s.slots.sweeperReserved - 1 }
        fau := { s.fau with tag := s.fau.tag + 1, jobs := s.fau.jobs ++ [part.job r.token] } } := by
      rw [onlyRest, State.partPassed_eq, only]
      rfl
    have run := exec_restartStartPassBucket_passed bucket ways
    rw [State.nextPassBucket_eq x b (by rw [frame]; exact more)] at run
    refine ⟨_, run, ?_, ?_, fun k other => ?_, fun k => ?_⟩
    · rw [frame]
      rfl
    · rw [frame]
      exact s.way_putWay_some b w _
    · rw [frame]
      exact s.putWay_get_ne b w (some { r with closing := some part }) other
    · have behindCounts : ((List.range' (w + 1) (7 - w)).filter fun v => decide (s.sweeper.passWay ≤ v)).map
            (fun v => (((u.partPassed b w r c).way b v).map fun q => q.namings k).getD 0) =
          ((List.range' (w + 1) (7 - w)).filter fun v => decide (s.sweeper.passWay ≤ v)).map
            fun v => ((s.way b v).map fun q => q.namings k).getD 0 :=
        List.map_congr_left fun v mem => by rw [same v (behind v mem).2.2]
      have here : named w k = r.namings k := by simp only [named, if_pos ahead, found, Option.map_some, Option.getD_some]
      have total : ((List.range 8).map fun v => named v k).sum = ((List.range w).map fun v => named v k).sum +
          (r.namings k + ((List.range' (w + 1) (7 - w)).map fun v => named v k).sum) := by
        rw [ways_range low, List.map_append, List.sum_append, List.map_cons, List.sum_cons, here]
      refine (counted k).trans ?_
      rw [behindCounts, State.bank_partPassed u b w closing, banks k, total, sum_map_filter, sum_map_filter]
      simp only [decide_eq_true_eq, Nat.add_assoc]
      rfl
  · have blocked : s.sweeperSlotAtHand = false := by
      rw [← Bool.not_eq_true, State.sweeperSlotAtHand_iff]
      exact full
    have noneFree : u.freeSlots = 0 := by
      rw [only]
      exact Nat.eq_zero_of_not_pos fun free => full (.inr free)
    have ways : s.passWays b (waysFrom s.sweeper.passWay) = (u, some w) := by
      rw [split, State.passWays_append _ _ passed, State.passWays, closed, blocked]
      rfl
    refine ⟨_, exec_restartStartPassBucket_blocked bucket ways noneFree, ?_, fun k => ?_⟩
    · rw [only]
      rfl
    · refine (banks k).trans ?_
      rw [sum_map_filter]
      simp only [decide_eq_true_eq]
      rfl

end Passes

end Sys2Proof.Machine
end


section
/-!
The pass of an activation check (R10, R150): the derived column holds each station's farthest charged distance, and what
the pass makes of the two banks and of the Matcher.
-/
namespace Sys2Proof.Machine

open Sys2Proof

/-! ### The farthest station (R10) -/

/-- The best of some stations so far: its distance is reached there, by no earlier one and exceeded by none. -/
structure Farthest (f : Nat → Nat) (n : Nat) (best : Nat × Nat) : Prop where
  reached : f best.2 = best.1
  station : best.2 < n ∨ best.2 = 0
  greatest : ∀ j < n, f j ≤ best.1
  first : ∀ j < best.2, f j < best.1

theorem Farthest.next {f : Nat → Nat} {n : Nat} {best : Nat × Nat} (is : Farthest f n best) :
    Farthest f (n + 1) (if best.1 < f n then (f n, n) else best) := by
  split_ifs with farther
  · refine ⟨rfl, .inl (Nat.lt_succ_self n), fun j low => ?_, fun j low => (is.greatest j low).trans_lt farther⟩
    rcases Nat.lt_succ_iff_lt_or_eq.1 low with before | rfl
    · exact (is.greatest j before).trans farther.le
    · exact le_rfl
  · refine ⟨is.reached, is.station.imp_left (Nat.lt_succ_of_lt ·), fun j low => ?_, is.first⟩
    rcases Nat.lt_succ_iff_lt_or_eq.1 low with before | rfl
    · exact is.greatest j before
    · exact Nat.le_of_not_lt farther

theorem farthest_of_foldl (f : Nat → Nat) : ∀ n, Farthest f n ((List.range n).foldl
    (fun best t => if best.1 < f t then (f t, t) else best) (f 0, 0))
  | 0 => ⟨rfl, .inr rfl, fun _ low => absurd low (Nat.not_lt_zero _), fun _ low => absurd low (Nat.not_lt_zero _)⟩
  | n + 1 => by
    rw [List.range_succ, List.foldl_append]
    exact (farthest_of_foldl f n).next

theorem farthest_is (m : WordMem) (i : Nat) : Farthest (chargedDistance m i) (stationCount m) (farthest m i) :=
  farthest_of_foldl (chargedDistance m i) (stationCount m)

/-! ### The derived column (Table 9-10) -/

theorem wordAt_writeDerived {m : WordMem} (wf : wordsWf m) {i : Nat} (low : i < 64) :
    wordAt (writeDerived m 0 64) (1536 + i) = derivedWord m i := by
  rw [writeDerived, wordAt_writeWords _ _ _ _ wf, if_pos (by omega)]
  simp [low]

/-- A station in force reads back its farthest distance and the lowest station at which it is reached. -/
theorem derivedColumn_fields {m : WordMem} (wf : wordsWf m) (stations : stationCount m ≤ 64) {i : Nat}
    (inForce : i < stationCount m) : derivedDistance (writeDerived m 0 64) i = (farthest m i).1 ∧
      derivedStation (writeDerived m 0 64) i = (farthest m i).2 := by
  have is := farthest_is m i
  have distance : (farthest m i).1 ≤ 65535 := is.reached ▸ chargedDistance_le m i _
  have station : (farthest m i).2 < 64 := by
    have := is.station
    omega
  obtain ⟨low, high⟩ := derivedWord_fields m i inForce
  rw [derivedDistance, derivedStation, wordAt_writeDerived wf (by omega), low, high]
  omega

/-! ### The pass -/

theorem exec_activationCheckEnd_pass {s : State} {b : BankId} (checking : (s.bank b).state = .checking)
    (other : (s.bank b.other).state ≠ .checking) (passes : checkFailure (s.words b) = none) :
    exec .activationCheckEnd s = .next (s.passCheck b) := by
  show execActivationCheckEnd s = _
  rw [execActivationCheckEnd, State.checkingBank_eq checking other, ← State.endCheck_pass passes]

theorem State.bank_passCheck (s : State) (b : BankId) : (s.passCheck b).bank b = (s.bank b).activated := by
  rw [State.passCheck_eq]
  exact TableStore.bank_setBank_self _ _ _

theorem State.bank_passCheck_other (s : State) (b : BankId) :
    (s.passCheck b).bank b.other = (s.bank b.other).replaced := by
  rw [State.passCheck_eq]
  exact (TableStore.bank_setBank_other _ _ _).trans (TableStore.bank_setBank_self _ _ _)

/-- Settles O49: the derived column by its words, and each bank by what the pass makes of it. -/
theorem passedCheckActivatesTheBank : Obligations.PassedCheckActivatesTheBank := by
  intro s b canonical checking other passes
  have wf := State.wordsWf_words canonical b
  have stations : 2 ≤ stationCount (s.words b) ∧ stationCount (s.words b) ≤ 64 :=
    (checkFailure_eq_none_iff.1 passes 2 (by norm_num) (by norm_num)).1
  have bank := s.bank_passCheck b
  have words : (s.passCheck b).words b = writeDerived (s.words b) 0 64 := (congrArg Bank.words bank :)
  refine ⟨s.passCheck b, exec_activationCheckEnd_pass checking other passes, ?only, ?store, ?_, fun i inForce => ?column,
    fun i low notInForce => ?cleared, fun offset outside => ?kept, fun active => ?replaced, fun notActive => ?stays, ?_, ?_, ?_⟩
  case only =>
    rw [State.passCheck_eq]
  case store =>
    rw [State.passCheck_eq]
    cases b <;> rfl
  case column =>
    have is := farthest_is (s.words b) i
    obtain ⟨distance, station⟩ := derivedColumn_fields wf stations.2 inForce
    rw [words, distance, station]
    exact ⟨is.station.elim id fun zero => by omega, is.reached, is.greatest, is.first⟩
  case cleared =>
    rw [words, wordAt_writeDerived wf low, derivedWord, if_neg (Nat.not_lt.2 notInForce)]
    rfl
  case kept => rw [words, wordAt_writeDerived_outside _ (.inl le_rfl) outside]
  case replaced =>
    rw [State.bank_passCheck_other, Bank.replaced, if_pos active]
  case stays =>
    rw [State.bank_passCheck_other, Bank.replaced, if_neg notActive]
  · rw [bank, words]
    rfl
  all_goals rw [State.passCheck_eq]
  rfl

end Sys2Proof.Machine
end


section
/-!
The two resets (R80, R81, R136, R141, R155, R156): what the stop of a clear and of a check leaves of each bank, and the
state after a power-up and after a restart.
-/
namespace Sys2Proof.Machine

open Sys2Proof

section Resets

variable {s t : State} {b : BankId}

/-! ### A bank as a reset stops it (R141) -/

/-- What a reset leaves of a bank's schedule and words when it stops a clear and a check in flight. -/
structure State.BankStopped (s t : State) (b : BankId) : Prop where
  state : (t.bank b).state = (s.bank b).state
  activation : (t.bank b).activation = (s.bank b).activation
  checkCode : (t.bank b).checkCode = (s.bank b).checkCode
  unclaimed : (∀ c, s.store.clear = some c → c.bank ≠ b) →
    ((s.bank b).state ≠ .checking → t.words b = s.words b) ∧
      ∀ offset, ¬(1536 ≤ offset ∧ offset ≤ 1599) → wordAt (t.words b) offset = wordAt (s.words b) offset
  broken : ∀ c, s.store.clear = some c → c.bank = b → (s.bank b).state ≠ .checking → c.reached ≤ 255 →
    clearBroken c (s.words b) (t.words b)

theorem State.BankStopped.of_bank (same : t.bank b = s.bank b) (unclaimed : ∀ c, s.store.clear = some c → c.bank ≠ b) :
    s.BankStopped t b where
  state := by rw [same]
  activation := by rw [same]
  checkCode := by rw [same]
  unclaimed _ := ⟨fun _ => by rw [State.words, same]; rfl, fun _ _ => by rw [State.words, same]; rfl⟩
  broken c inFlight claims := absurd claims (unclaimed c inFlight)

theorem State.bankStopped_breakClear (s : State) (b : BankId) : s.BankStopped s.breakClear b := by
  cases inFlight : s.store.clear with
  | none =>
    have still : s.breakClear = s := by
      have stays : s.advanceClear = s := by rw [State.advanceClear, inFlight]
      rw [State.breakClear, stays, inFlight]
    exact .of_bank (by rw [still]) (by simp [inFlight])
  | some c =>
    obtain ⟨-, bank, other, words⟩ := State.breakClear_some inFlight
    by_cases claims : c.bank = b
    · subst claims
      refine ⟨by rw [bank], by rw [bank], by rw [bank], fun unclaimed => absurd rfl (unclaimed c inFlight), ?_⟩
      rintro d found - - bound
      obtain rfl : c = d := by simpa [inFlight] using found
      exact words bound
    · have that : b = c.bank.other := by
        revert claims
        cases c.bank <;> cases b <;> simp [BankId.other]
      subst that
      exact .of_bank other fun d found => by
        obtain rfl : c = d := by simpa [inFlight] using found
        exact claims

/-- What the further words of a check make of a bank: nothing, or some words of the derived column. -/
theorem State.bank_advanceCheck (s : State) (a b : BankId) : (s.advanceCheck a).bank b = s.bank b ∨
    (s.bank b).state = .checking ∧ ∃ lo hi, (hi ≤ 64 ∨ hi ≤ lo) ∧
      (s.advanceCheck a).bank b = { s.bank b with words := writeDerived (s.words b) lo hi, derivedDone := hi } := by
  unfold State.advanceCheck
  dsimp only
  split
  · next h =>
    by_cases same : b = a
    · subst same
      exact .inr ⟨h.1, _, _, by omega, s.bank_setBank_self b _⟩
    · exact .inl (s.bank_setBank_ne _ same)
  · exact .inl rfl

theorem State.clear_advanceCheck (s : State) (b : BankId) : (s.advanceCheck b).store.clear = s.store.clear := by
  unfold State.advanceCheck
  dsimp only
  split
  · cases b <;> rfl
  · rfl

/-- A check in flight writes the derived area of its own bank alone, and nothing where none is in flight (R150). -/
theorem State.BankStopped.advanceCheck (stopped : s.BankStopped t b) (a : BankId) : s.BankStopped (t.advanceCheck a) b := by
  rcases t.bank_advanceCheck a b with same | ⟨checking, lo, hi, inColumn, written⟩
  · have words : (t.advanceCheck a).words b = t.words b := by rw [State.words, same]; rfl
    obtain ⟨state, activation, checkCode, unclaimed, broken⟩ := stopped
    exact ⟨by rw [same, state], by rw [same, activation], by rw [same, checkCode], words ▸ unclaimed, words ▸ broken⟩
  · obtain ⟨state, activation, checkCode, unclaimed, broken⟩ := stopped
    have inFlight : (s.bank b).state = .checking := state ▸ checking
    have words : (t.advanceCheck a).words b = writeDerived (t.words b) lo hi := (congrArg Bank.words written :)
    refine ⟨by rw [written]; exact state, by rw [written]; exact activation, by rw [written]; exact checkCode,
      fun free => ⟨absurd inFlight, fun offset outside => ?_⟩, fun _ _ _ notChecking => absurd inFlight notChecking⟩
    rw [words, wordAt_writeDerived_outside _ inColumn outside]
    exact (unclaimed free).2 offset outside

theorem State.bankStopped_stopStore (s : State) (b : BankId) : s.BankStopped s.stopStore b :=
  ((s.bankStopped_breakClear b).advanceCheck .A).advanceCheck .B

theorem State.clear_stopStore (s : State) : s.stopStore.store.clear = none := by
  rw [State.stopStore, State.clear_advanceCheck, State.clear_advanceCheck]
  cases inFlight : s.store.clear with
  | none =>
    have stays : s.advanceClear = s := by rw [State.advanceClear, inFlight]
    rw [State.breakClear, stays, inFlight]
    exact inFlight
  | some c => exact (State.breakClear_some inFlight).1

/-! ### A bank after a reset (R136, R155, R156) -/

theorem State.bank_restart (s : State) (b : BankId) : s.restart.bank b = (s.stopStore.bank b).reset := by
  cases b <;> rfl

theorem State.bank_powerUp (s : State) (dram : DramStrap) (node : Octet) (b : BankId) :
    (s.powerUp dram node).bank b = (s.stopStore.bank b).reset.powerUp := by
  cases b <;> rfl

theorem exec_powerUp (s : State) (dram : DramStrap) (node : Octet) :
    exec (.powerUp dram node) s = .next (s.powerUp dram node) := rfl

theorem exec_resetLineInput (s : State) : exec .resetLineInput s = .next s.restart := rfl

/-- Settles O15: the blocks by their defaults, and each bank as the reset stops it. -/
theorem restartState : Obligations.RestartState := by
  intro s
  obtain ⟨clock, table, dram, count, node, holds, matcher, slots, fau, sweeper, station, office, responder, pending⟩ :=
    s.stopStore_frame
  obtain ⟨pointerBank, pointerOffset⟩ := s.pointer_restart
  refine ⟨_, exec_resetLineInput s, table, count, node, clock, ?_, rfl, rfl, ⟨rfl, rfl, rfl, rfl, rfl, rfl, rfl, rfl, rfl,
    rfl⟩, rfl, ⟨rfl, rfl, rfl, rfl, rfl⟩, ⟨rfl, rfl, rfl, rfl, rfl, rfl, rfl, rfl, ?_⟩, ⟨rfl, rfl, rfl, rfl, rfl, rfl,
    rfl, rfl, rfl, ?_⟩, ⟨s.clear_stopStore, pointerBank, pointerOffset⟩, fun b => ?_⟩
  · rw [← fau]
    rfl
  · rw [← station]
    rfl
  · rw [← office]
    rfl
  · obtain ⟨state, activation, checkCode, unclaimed, broken⟩ := s.bankStopped_stopStore b
    have words : s.restart.words b = s.stopStore.words b := State.words_resetBlocks _ _ _ b
    rw [words, s.bank_restart b]
    refine ⟨rfl, activation, checkCode, fun checking => if_pos (state.trans checking),
      fun notChecking => (if_neg (state ▸ notChecking)).trans state, fun free => ⟨(unclaimed free).1, fun _ => (unclaimed free).2⟩,
      broken⟩

theorem Bank.powerUp_kept (k : Bank) : k.powerUp.refs = k.refs ∧ k.powerUp.activation = k.activation ∧
    k.powerUp.checkCode = k.checkCode := by
  unfold Bank.powerUp
  split_ifs <;> exact ⟨rfl, rfl, rfl⟩

/-- Settles O14: the straps and the trim read, the blocks by their defaults, and each bank as the reset stops it. -/
theorem powerUpState : Obligations.PowerUpState := by
  intro dram node s
  obtain ⟨clock, table, dramWritten, count, node', holds, matcher, slots, fau, sweeper, station, office, responder,
    pending⟩ := s.stopStore_frame
  have clock := s.clock_powerUp dram node
  refine ⟨_, exec_powerUp s dram node, rfl, rfl, rfl, ?clock, rfl, rfl, rfl, ⟨rfl, rfl, rfl, rfl, rfl, rfl, rfl, rfl, rfl,
    rfl⟩, rfl, ⟨rfl, rfl, rfl, rfl, rfl⟩, ⟨rfl, rfl, rfl, rfl, rfl, rfl, rfl, rfl, ?station⟩, ⟨rfl, rfl, rfl, rfl, rfl,
    rfl, rfl, rfl, rfl, ?office⟩, ⟨s.clear_stopStore, rfl, rfl⟩, fun b => ?bank⟩
  case clock =>
    rw [clock]
    refine ⟨rfl, rfl, rfl, rfl, rfl, rfl, ?_⟩
    have bounds : -1000 ≤ trimOf s.clock.trimDescriptor ∧ trimOf s.clock.trimDescriptor ≤ 1000 := by
      unfold trimOf
      split_ifs with inRange
      · exact inRange
      · norm_num
    exact Int.toNat_of_nonneg (by omega)
  case station =>
    rw [← station]
    rfl
  case office =>
    rw [← office]
    rfl
  case bank =>
    obtain ⟨state, activation, checkCode, unclaimed, broken⟩ := s.bankStopped_stopStore b
    obtain ⟨refs', activation', checkCode'⟩ := (s.stopStore.bank b).reset.powerUp_kept
    rw [s.words_powerUp dram node b, s.bank_powerUp dram node b]
    refine ⟨refs', activation'.trans activation, checkCode'.trans checkCode, fun checking => ?_, fun retiring => ?_,
      fun notChecking notRetiring => ?_, fun free => ⟨(unclaimed free).1, fun _ => (unclaimed free).2⟩, broken⟩
    · simp [Bank.powerUp, Bank.reset, state, checking]
    · simp [Bank.powerUp, Bank.reset, state, retiring]
    · simp [Bank.powerUp, Bank.reset, state, notChecking, notRetiring]

end Resets

end Sys2Proof.Machine
end


section
/-!
Holds and the Sweeper's registers (R73, R74, R79, R110): every command but the two resets and SET CHANNELS changes the
holds by requests, by releases of a bucket that is held, and by the grant of a free bucket, and leaves the Sweeper's
pause, pointer and round count within their ranges.
-/
namespace Sys2Proof.Machine

open Sys2Proof

/-- The Sweeper's pause, pointer and round count are within their ranges, over `n` buckets (R110). -/
def Sweeper.Within (n : Nat) (w : Sweeper) : Prop := 1 ≤ w.pause.toNat ∧ w.pointer < n ∧ w.round < n

/-- The Sweeper's registers stay within their ranges from `v` to `w`. -/
abbrev Sweeper.Stays (n : Nat) (v w : Sweeper) : Prop := v.Within n → w.Within n

/-- From `s` to `t` the holds changed by requests, by releases of a bucket that its holder held, and by the grant of a
bucket that nothing held; the channel mask, which a grant reads, stands, and the Sweeper's registers stay within their
ranges. -/
inductive State.HoldsRun (s : State) : State → Prop
  | refl : HoldsRun s s
  | same {t u : State} (run : HoldsRun s t) (holds : u.holds = t.holds) (channels : u.fau.channels = t.fau.channels)
      (sweeper : Sweeper.Stays s.bucketCount t.sweeper u.sweeper) : HoldsRun s u
  | request {t : State} (run : HoldsRun s t) (who : Holder) (b : Nat) : HoldsRun s (t.requestHold who b)
  | release {t : State} {who : Holder} {b : Nat} {read : Reading} (run : HoldsRun s t)
      (held : t.holds.get who = .held b read) : HoldsRun s (t.releaseHold who b)
  | grantNext {t : State} {b : Nat} (run : HoldsRun s t) (free : t.holds.heldIn b = false) : HoldsRun s (t.grantNext b)

/-! ### One holder at most -/

/-- No bucket is held by two holders. -/
def Holds.Exclusive (h : Holds) : Prop :=
  ∀ (b : Nat) (x y : Holder) (p q : Reading), h.get x = .held b p → h.get y = .held b q → x = y

theorem Holds.Exclusive.set {h : Holds} (exclusive : h.Exclusive) {who : Holder} {v : Hold}
    (free : ∀ b p, v = .held b p → ∀ y q, y ≠ who → h.get y ≠ .held b q) : (h.set who v).Exclusive := by
  intro b x y p q holdsX holdsY
  by_cases isX : x = who <;> by_cases isY : y = who
  · rw [isX, isY]
  · subst isX
    rw [Holds.get_set_self] at holdsX
    rw [Holds.get_set_ne h v isY] at holdsY
    exact absurd holdsY (free b p holdsX y q isY)
  · subst isY
    rw [Holds.get_set_self] at holdsY
    rw [Holds.get_set_ne h v isX] at holdsX
    exact absurd holdsX (free b q holdsY x p isX)
  · rw [Holds.get_set_ne h v isX] at holdsX
    rw [Holds.get_set_ne h v isY] at holdsY
    exact exclusive b x y p q holdsX holdsY

/-- A bucket that is not held is held by no one of the three. -/
theorem Holds.get_of_free {h : Holds} {b : Nat} (free : h.heldIn b = false) (y : Holder) (q : Reading) :
    h.get y ≠ .held b q := by
  intro held
  have : h.heldIn b = true := by cases y <;> simp_all [Holds.get, Holds.heldIn, Hold.holdsBucket]
  simp [free] at this

theorem Hold.held_inj {b c : Nat} {p q : Reading} (same : Hold.held b p = .held c q) : b = c ∧ p = q := by
  injection same with bucket reading
  exact ⟨bucket, reading⟩

/-- The grant at a release goes to one holder, or to none. -/
theorem State.holds_grantNext_cases (s : State) (b : Nat) :
    (∃ who, (s.grantNext b).holds = s.holds.set who (.held b s.reading)) ∨ (s.grantNext b).holds = s.holds := by
  rw [State.holds_grantNext]
  split_ifs
  · exact .inl ⟨.fau, rfl⟩
  · exact .inl ⟨.matcher, rfl⟩
  · exact .inl ⟨.sweeper, rfl⟩
  · exact .inr rfl

/-- The grant to the next in order of a bucket that nothing holds. -/
theorem State.exclusive_grantNext {s : State} {b : Nat} (exclusive : s.holds.Exclusive)
    (free : ∀ y q, s.holds.get y ≠ .held b q) : (s.grantNext b).holds.Exclusive := by
  rcases s.holds_grantNext_cases b with ⟨who, granted⟩ | same
  · rw [granted]
    exact exclusive.set fun c p same y q _ => (Hold.held_inj same).1 ▸ free y q
  · exact same ▸ exclusive

/-- A release ends one hold, and grants its bucket next or leaves it for a READ TOKEN. -/
theorem State.releaseHold_cases (s : State) (who : Holder) (b : Nat) :
    s.releaseHold who b = s.setHold who .none ∨ s.releaseHold who b = (s.setHold who .none).grantNext b := by
  simp only [State.releaseHold]
  split_ifs
  · exact .inl rfl
  · exact .inr rfl

theorem State.HoldsRun.exclusive {s t : State} (run : s.HoldsRun t) (exclusive : s.holds.Exclusive) :
    t.holds.Exclusive := by
  induction run with
  | refl => exact exclusive
  | same _ holds _ _ ih => exact holds ▸ ih
  | @request t _ who b ih =>
    rw [State.holds_requestHold]
    refine ih.set fun c p given y q _ => ?_
    unfold State.holdGiven at given
    split_ifs at given with free
    exact (Hold.held_inj given).1 ▸ Holds.get_of_free free.1 y q
  | @release t who b read _ held ih =>
    have dropped : (t.setHold who .none).holds.Exclusive := ih.set fun _ _ none => by simp at none
    have free : ∀ y q, (t.setHold who .none).holds.get y ≠ .held b q := by
      intro y q holds
      by_cases same : y = who
      · subst same
        rw [State.setHold, Holds.get_set_self] at holds
        simp at holds
      · exact same (ih b y who q read ((Holds.get_set_ne _ _ same).symm.trans holds) held)
    rcases t.releaseHold_cases who b with h | h
    · exact h ▸ dropped
    · exact h ▸ State.exclusive_grantNext dropped free
  | grantNext _ free ih => exact State.exclusive_grantNext ih (Holds.get_of_free free)

/-! ### What a holder read at its grant (R57) -/

/-- Channel 0 is enabled in the mask and in every mask that a holder read. -/
def State.channelZero (s : State) : Prop :=
  s.fau.channels.getLsbD 0 = true ∧ ∀ who b r, s.holds.get who = .held b r → r.channels.getLsbD 0 = true

/-- A hold set to a bucket that is read now, or to none. -/
theorem State.channelZero.set {s t : State} (zero : s.channelZero) {who : Holder} {v : Hold}
    (holds : t.holds = s.holds.set who v) (channels : t.fau.channels = s.fau.channels)
    (reads : ∀ b r, v = .held b r → r = s.reading) : t.channelZero := by
  refine ⟨channels ▸ zero.1, fun y c r held => ?_⟩
  rw [holds] at held
  by_cases same : y = who
  · subst same
    rw [Holds.get_set_self] at held
    rw [reads c r held]
    exact zero.1
  · rw [Holds.get_set_ne _ _ same] at held
    exact zero.2 y c r held

theorem State.channelZero.grantNext {s : State} (zero : s.channelZero) (b : Nat) : (s.grantNext b).channelZero := by
  rcases s.holds_grantNext_cases b with ⟨who, granted⟩ | same
  · exact zero.set granted (by simp) fun c r held => (Hold.held_inj held).2.symm
  · exact ⟨by simpa using zero.1, same ▸ zero.2⟩

theorem State.HoldsRun.channelZero {s t : State} (run : s.HoldsRun t) (zero : s.channelZero) : t.channelZero := by
  induction run with
  | refl => exact zero
  | same _ holds channels _ ih => exact ⟨channels ▸ ih.1, holds ▸ ih.2⟩
  | @request t _ who b ih =>
    refine ih.set (State.holds_requestHold t who b) (by simp) fun c r given => ?_
    unfold State.holdGiven at given
    split_ifs at given
    exact (Hold.held_inj given).2.symm
  | @release t who b _ _ _ ih =>
    have dropped : (t.setHold who .none).channelZero := ih.set rfl rfl fun _ _ none => by simp at none
    rcases t.releaseHold_cases who b with h | h
    · exact h ▸ dropped
    · exact h ▸ dropped.grantNext b
  | grantNext _ _ ih => exact ih.grantNext _

theorem State.HoldsRun.sweeper {s t : State} (run : s.HoldsRun t) : Sweeper.Stays s.bucketCount s.sweeper t.sweeper := by
  induction run with
  | refl => exact id
  | same _ _ _ sweeper ih => exact sweeper ∘ ih
  | request _ _ _ ih => simpa using ih
  | release _ _ ih => simpa using ih
  | grantNext _ _ ih => simpa using ih

/-- The notice is the Matcher's request alone: the FAU holds its bucket still. -/
theorem State.fau_notice (s : State) (b : Nat) (k : Token) :
    (s.notice b k).holds.fau = s.holds.fau := by
  unfold State.notice
  split
  · split_ifs
    · rw [State.holds_requestHold]
      rfl
    · rfl
  · split_ifs
    · rw [State.holds_requestHold]
      rfl
    · rfl
  · rfl

namespace State.HoldsRun

variable {s t : State}

/-! ### The Matcher's steps (R83 to R108) -/

/-- A change beside the holds, the mask and the Sweeper. -/
theorem aside {u : State} (run : s.HoldsRun t) (holds : u.holds = t.holds) (channels : u.fau.channels = t.fau.channels)
    (sweeper : u.sweeper = t.sweeper) : s.HoldsRun u :=
  run.same holds channels fun h => sweeper ▸ h

theorem setMatcher (run : s.HoldsRun t) (m : Matcher) : s.HoldsRun { t with matcher := m } := run.aside rfl rfl rfl

theorem setSlots (run : s.HoldsRun t) (x : Slots) : s.HoldsRun { t with slots := x } := run.aside rfl rfl rfl

theorem setResponder (run : s.HoldsRun t) (r : Responder) : s.HoldsRun { t with responder := r } := run.aside rfl rfl rfl

theorem setFau (run : s.HoldsRun t) (f : FauState) : s.HoldsRun (t.setFau f) := run.aside rfl rfl rfl

theorem releaseRef (run : s.HoldsRun t) (b : BankId) : s.HoldsRun (t.releaseRef b) := run.aside (by simp) (by simp) (by simp)

theorem endWork (run : s.HoldsRun t) (h : Handling) : s.HoldsRun (t.endWork h) := by
  unfold State.endWork
  dsimp only
  split
  · exact run.aside (by simp [State.setWork]) (by simp [State.setWork]) (by simp [State.setWork])
  · exact run.aside (by simp [State.setWork]) (by simp [State.setWork]) (by simp [State.setWork])

theorem refuseRecord (run : s.HoldsRun t) (h : Handling) (k : VerdictKind) : s.HoldsRun (t.refuseRecord h k) :=
  endWork (run.aside (by simp) (by simp) (by simp)) h

theorem seekHold (run : s.HoldsRun t) (h : Handling) : s.HoldsRun (t.seekHold h) :=
  (run.setMatcher { t.matcher with work := .waitHold h }).request _ _

theorem seekSlot (run : s.HoldsRun t) (w : MatcherWork) : s.HoldsRun (t.seekSlot w) :=
  run.aside (by simp [State.seekSlot, State.setWork]) (by simp [State.seekSlot, State.setWork])
    (by simp [State.seekSlot, State.setWork])

theorem judgeRecord (run : s.HoldsRun t) (h : Handling) (b : BankId) : s.HoldsRun (t.judgeRecord h b) := by
  unfold State.judgeRecord
  dsimp only
  split_ifs
  · exact (run.aside (by simp) (by simp) (by simp)).refuseRecord _ _
  · exact run.refuseRecord _ _
  · unfold State.admitRecord
    split_ifs
    · exact run.seekSlot _
    · exact run.seekHold _

theorem testRecord (run : s.HoldsRun t) (h : Handling) : s.HoldsRun (t.testRecord h) := by
  unfold State.testRecord
  split
  · exact run.refuseRecord _ _
  · split_ifs
    · exact run.refuseRecord _ _
    · exact run.judgeRecord _ _

theorem takeSlot (run : s.HoldsRun t) (h : Handling) : s.HoldsRun (t.takeSlot h) :=
  (run.setSlots _).seekHold h

theorem takeAssist (run : s.HoldsRun t) (k : Token) (station gate : Octet) (i : Nat) :
    s.HoldsRun (t.takeAssist k station gate i) := by
  unfold State.takeAssist
  split
  · exact run.aside rfl rfl rfl
  · split_ifs
    · exact run.aside rfl rfl rfl
    · exact (run.setResponder _).seekSlot _

theorem waitAfterHold {b : Nat} {read : Reading} (run : s.HoldsRun t) (held : t.holds.matcher = .held b read)
    (w : MatcherWork) : s.HoldsRun (t.waitAfterHold b w) :=
  release (who := .matcher) (run.setMatcher { t.matcher with work := w }) held

theorem finish {b : Nat} {read : Reading} (run : s.HoldsRun t) (held : t.holds.matcher = .held b read) (h : Handling) :
    s.HoldsRun (t.finish b h) := by
  have released : s.HoldsRun (t.releaseHold .matcher b) := run.release held
  refine endWork (t := (t.releaseHold .matcher b).countTaken h) ?_ h
  unfold State.countTaken
  split
  · exact released.aside rfl rfl rfl
  · exact released

theorem handleHold {b : Nat} {read : Reading} (held : s.holds.matcher = .held b read) (h : Handling) (now : LineTime) :
    s.HoldsRun (s.handleHold b h now) := by
  have ends := State.HoldEnds.handleHold s b h now
  generalize s.handleHold b h now = u at ends ⊢
  cases ends with
  | waits _ => exact refl.waitAfterHold held _
  | asks _ => exact (refl.waitAfterHold held (.waitSecond h)).aside (by simp) (by simp) (by simp)
  | ends prepared _ =>
    exact finish (refl.aside prepared.holds prepared.worked.channels prepared.sweeper) (prepared.holds.symm ▸ held) h

/-! ### The FAU's steps (R41 to R54, R79) -/

theorem answerJob (run : s.HoldsRun t) (job : Job) (x : Settlement) (c : Charge) : s.HoldsRun (t.answerJob job x c) := by
  unfold State.answerJob
  split
  · exact run
  · exact run.aside (by simp) (by simp) (by simp)
  · exact run.aside rfl rfl rfl

theorem report (run : s.HoldsRun t) (job : Job) (r : FareResult) (c : Charge) (channels : BitVec 4) :
    s.HoldsRun (t.report job r c channels) :=
  answerJob (t := t.appendSettlement (t.settlementOf job r c channels)) (run.aside rfl rfl rfl) _ _ _

theorem notice (run : s.HoldsRun t) (b : Nat) (k : Token) : s.HoldsRun (t.notice b k) := by
  unfold State.notice
  split
  · split_ifs
    · exact (run.setMatcher _).request _ _
    · exact run
  · split_ifs
    · exact (run.setMatcher _).request _ _
    · exact run
  · exact run

theorem releaseFau {b : Nat} {read : Reading} (run : s.HoldsRun t) (held : t.holds.fau = .held b read) (job : Job)
    (removed : Bool) : s.HoldsRun (t.releaseFau b job removed) := by
  unfold State.releaseFau
  dsimp only
  split_ifs
  · exact release (who := .fau) ((run.notice b job.token).setFau .idle) ((t.fau_notice b job.token).trans held)
  · exact release (who := .fau) (run.setFau .idle) held

theorem settleParts (run : s.HoldsRun t) (b w : Nat) (job : Job) (old : TokenRecord) (c : Charge) (now : LineTime) :
    s.HoldsRun (t.settleParts b w job old c now) := by
  unfold State.settleParts
  split
  · split_ifs
    · exact run.aside (by simp) (by simp) (by simp)
    · exact run.aside (by simp) (by simp) (by simp)
  · exact run.aside (by simp) (by simp) (by simp)

end State.HoldsRun

theorem State.holds_answerJob (s : State) (job : Job) (x : Settlement) (c : Charge) :
    (s.answerJob job x c).holds = s.holds := by
  unfold State.answerJob
  split
  · rfl
  · simp
  · rfl

theorem State.holds_report (s : State) (job : Job) (r : FareResult) (c : Charge) (channels : BitVec 4) :
    (s.report job r c channels).holds = s.holds := State.holds_answerJob _ _ _ _

theorem State.holds_settleParts (s : State) (b w : Nat) (job : Job) (old : TokenRecord) (c : Charge) (now : LineTime) :
    (s.settleParts b w job old c now).holds = s.holds := by
  unfold State.settleParts
  split
  · split_ifs <;> simp
  · simp

namespace State.HoldsRun

variable {s t : State}

theorem writeBack {b : Nat} {read : Reading} (held : s.holds.fau = .held b read) (job : Job) (r : FareResult) :
    s.HoldsRun (s.writeBack b job r read) := by
  unfold State.writeBack
  split
  · refine releaseFau (read := read) ((refl.settleParts _ _ _ _ _ _).report _ _ _ _) ?_ job true
    rw [State.holds_report, State.holds_settleParts]
    exact held
  · refine releaseFau (read := read) (refl.report _ _ _ _) ?_ job false
    rw [State.holds_report]
    exact held

end State.HoldsRun

/-! ### The Sweeper's steps (R112 to R125) -/

/-- The holds, the mask, the Sweeper and the Matcher stand: what an examination of ways and a pass over them leave. -/
structure State.HoldsStand (s t : State) : Prop where
  holds : t.holds = s.holds
  channels : t.fau.channels = s.fau.channels
  sweeper : t.sweeper = s.sweeper
  matcher : t.matcher = s.matcher

theorem State.HoldsStand.trans {s t u : State} (h : s.HoldsStand t) (k : t.HoldsStand u) : s.HoldsStand u :=
  ⟨k.holds.trans h.holds, k.channels.trans h.channels, k.sweeper.trans h.sweeper,
    k.matcher.trans h.matcher⟩

namespace State

theorem holdsStand_examineRecord (s : State) (b w : Nat) (r : TokenRecord) (now : LineTime) :
    s.HoldsStand (s.examineRecord b w r now).1 := by
  have dropped : s.HoldsStand (s.dropOverdue b w r now).1 := by
    unfold State.dropOverdue
    split
    · split_ifs
      · exact ⟨by simp, by simp, by simp, by simp⟩
      · exact ⟨rfl, rfl, rfl, rfl⟩
    · exact ⟨rfl, rfl, rfl, rfl⟩
  unfold State.examineRecord
  generalize s.dropOverdue b w r now = d at dropped
  obtain ⟨u, q⟩ := d
  dsimp only at dropped ⊢
  split
  · split_ifs
    · exact dropped.trans ⟨rfl, rfl, rfl, rfl⟩
    · exact dropped
    · exact dropped
  · split_ifs
    · exact dropped.trans ⟨rfl, rfl, rfl, rfl⟩
    · exact dropped

theorem holdsStand_examineWays (b : Nat) (now : LineTime) : ∀ (ws : List Nat) (s : State),
    s.HoldsStand (s.examineWays b now ws).1
  | [], s => ⟨rfl, rfl, rfl, rfl⟩
  | w :: ws, s => by
    have one : s.HoldsStand (s.examineWay b w now).1 := by
      unfold State.examineWay
      split
      · split_ifs
        · exact ⟨rfl, rfl, rfl, rfl⟩
        · exact s.holdsStand_examineRecord b w _ now
      · exact ⟨rfl, rfl, rfl, rfl⟩
    unfold State.examineWays
    split
    · next u hu =>
      rw [hu] at one
      exact one
    · next u hu =>
      rw [hu] at one
      exact one.trans (holdsStand_examineWays b now ws u)

theorem holdsStand_countParts (s : State) (r : TokenRecord) : s.HoldsStand (s.countParts r) := by
  rw [(s.countParts_eq r).1]
  exact ⟨rfl, rfl, rfl, rfl⟩

theorem holdsStand_passWays (b : Nat) : ∀ (ws : List Nat) (s : State), s.HoldsStand (s.passWays b ws).1
  | [], s => ⟨rfl, rfl, rfl, rfl⟩
  | w :: ws, s => by
    have one : s.HoldsStand (s.passWay b w).1 := by
      unfold State.passWay
      split
      · split
        · split_ifs
          · exact .trans ⟨by simp [State.resubmit], by simp [State.resubmit, State.submitSweeper, State.submit],
              by simp [State.resubmit], by simp [State.resubmit]⟩ (holdsStand_countParts _ _)
          · exact ⟨rfl, rfl, rfl, rfl⟩
        · exact holdsStand_countParts _ _
      · exact ⟨rfl, rfl, rfl, rfl⟩
    unfold State.passWays
    split
    · next u hu =>
      rw [hu] at one
      exact one
    · next u hu =>
      rw [hu] at one
      exact one.trans (holdsStand_passWays b ws u)

theorem holdsStand_fillUndefined (s : State) (b : Nat) : s.HoldsStand (s.fillUndefined b) := by
  have puts : ∀ (g : Nat → Option TokenRecord) (ws : List Nat) (u : State),
      u.HoldsStand (ws.foldl (fun u w => u.putWay b w (g w)) u) := by
    intro g ws
    induction ws with
    | nil => exact fun u => ⟨rfl, rfl, rfl, rfl⟩
    | cons w ws ih => exact fun u => .trans (t := u.putWay b w (g w)) ⟨rfl, rfl, rfl, rfl⟩ (ih _)
  unfold State.fillUndefined
  split_ifs
  · exact ⟨rfl, rfl, rfl, rfl⟩
  · obtain ⟨holds, channels, sweeper, matcher⟩ := puts (fun w => Config.undefinedWay s.freeCount (wayKey b w))
      (List.range Config.ways) s
    exact ⟨holds, channels, sweeper, matcher⟩

end State

/-- The Sweeper's defaults are within their ranges (R110). -/
theorem Sweeper.within_default {n : Nat} {w : Sweeper} (some : 0 < n) (pause : w.pause = ({} : Sweeper).pause)
    (pointer : w.pointer = 0) (round : w.round = 0) : w.Within n :=
  ⟨by rw [pause]; decide, by rwa [pointer], by rwa [round]⟩

theorem Sweeper.Within.examined {n : Nat} {w : Sweeper} (within : w.Within n) : (w.examined n).Within n := by
  obtain ⟨pause, pointer, round⟩ := within
  refine ⟨pause, Nat.mod_lt _ (by omega), ?_⟩
  unfold Sweeper.examined
  dsimp only
  split_ifs with complete
  · omega
  · have : w.round + 1 ≠ n := by simpa using complete
    omega

theorem Sweeper.Within.endBurst {n : Nat} {w : Sweeper} (within : w.Within n) : w.endBurst.Within n := by
  unfold Sweeper.endBurst
  split_ifs <;> exact within

namespace State.HoldsRun

variable {s t : State} {b : Nat} {read : Reading}

theorem stands {u : State} (run : s.HoldsRun t) (stand : t.HoldsStand u) : s.HoldsRun u :=
  run.aside stand.holds stand.channels stand.sweeper

/-- A change of the Sweeper beside its registers with a range. -/
theorem setSweeper (run : s.HoldsRun t) {w : Sweeper} (stays : Sweeper.Stays s.bucketCount t.sweeper w) :
    s.HoldsRun { t with sweeper := w } := run.same rfl rfl stays

theorem beginBurst (run : s.HoldsRun t) : s.HoldsRun t.beginBurst :=
  (run.setSweeper (w := { t.sweeper with state := .burst, burstDone := 0 }) id).request _ _

theorem returnSweeperSlot (run : s.HoldsRun t) : s.HoldsRun t.returnSweeperSlot :=
  run.aside (by simp) (by simp) (by simp)

theorem fullyExamined (run : s.HoldsRun t) (held : t.holds.sweeper = .held b read) (count : t.bucketCount = s.bucketCount) :
    s.HoldsRun (t.fullyExamined b) := by
  have examined : s.HoldsRun { t with sweeper := t.sweeper.examined t.bucketCount } :=
    run.setSweeper fun within => count ▸ within.examined
  have released := release (who := .sweeper) examined held
  have returned := released.returnSweeperSlot
  unfold State.fullyExamined State.continueBurst
  dsimp only
  split_ifs
  · exact returned.request _ _
  · exact returned.setSweeper Sweeper.Within.endBurst

theorem blocked (run : s.HoldsRun t) (held : t.holds.sweeper = .held b read) : s.HoldsRun (t.blocked b) := by
  have released := release (who := .sweeper) run held
  unfold State.blocked
  dsimp only
  split_ifs
  · exact released.setSweeper id
  · refine released.same (by simp) (by simp) ?_
    rw [(State.requestSweeperSlot_frame _).2.2.2.2.2.2.2.2.2.1]
    exact id

theorem examineBucket (held : s.holds.sweeper = .held b read) (now : LineTime) : s.HoldsRun (s.examineBucket b now) := by
  have stand := State.holdsStand_examineWays b now (List.range Config.ways) s
  have count := ((State.Worked.refl ⟨some b, false⟩ s).examineWays now (ws := List.range Config.ways)
    fun w hw => List.mem_range.1 hw).bucketCount
  unfold State.examineBucket
  split
  · next u hu =>
    rw [hu] at stand
    exact (refl.stands stand).blocked (stand.holds.symm ▸ held)
  · next u hu =>
    rw [hu] at stand count
    exact (refl.stands stand).fullyExamined (stand.holds.symm ▸ held) count

theorem endStartPass (run : s.HoldsRun t) : s.HoldsRun t.endStartPass := by
  refine run.same (by simp) (by simp) ?_
  rintro ⟨-, pointer, -⟩
  exact Sweeper.within_default (by omega) (by simp [State.endStartPass]) (by simp [State.endStartPass])
    (by simp [State.endStartPass])

theorem nextPassBucket (run : s.HoldsRun t) (held : t.holds.sweeper = .held b read) :
    s.HoldsRun (t.nextPassBucket b) := by
  have released := release (who := .sweeper) run held
  unfold State.nextPassBucket
  dsimp only
  split_ifs
  · refine request (released.setSweeper ?_) _ _
    exact id
  · exact released.endStartPass

theorem restartPassBucket (held : s.holds.sweeper = .held b read) : s.HoldsRun (s.restartPassBucket b) := by
  have stand := (s.holdsStand_fillUndefined b).trans
    (State.holdsStand_passWays b (waysFrom (s.fillUndefined b).sweeper.passWay) (s.fillUndefined b))
  unfold State.restartPassBucket
  dsimp only
  split
  · next u w hu =>
    rw [hu] at stand
    have released := release (who := .sweeper) (refl.stands stand) (stand.holds.symm ▸ held)
    refine released.same (by simp) (by simp) ?_
    rw [(State.requestSweeperSlot_frame _).2.2.2.2.2.2.2.2.2.1]
    exact id
  · next u hu =>
    rw [hu] at stand
    exact (refl.stands stand).nextPassBucket (stand.holds.symm ▸ held)

/-! ### The requests, the ends of a clear and of a check, and the ports (R73, R113, R140, R150, R172) -/

theorem answer (run : s.HoldsRun t) (q : Request) (x : Status) (d : List Octet) : s.HoldsRun (t.answer q x d) :=
  run.aside rfl rfl rfl

theorem portsOnly {u : State} (run : s.HoldsRun t) (only : t.PortsOnly u) : s.HoldsRun u :=
  run.aside (by rw [only.only]) (by rw [only.only]) (by rw [only.only])

end State.HoldsRun

/-- The holds and the mask as both resets leave them: the Sweeper holds bucket 0, and its registers have their
defaults. -/
structure State.HoldsReset (t : State) : Prop where
  holds : t.holds = { sweeper := .held 0 {} }
  channels : t.fau.channels = 15
  sweeper : ∀ n, 0 < n → t.sweeper.Within n

theorem State.holdsReset_restart (s : State) : s.restart.HoldsReset :=
  ⟨rfl, rfl, fun _ some => Sweeper.within_default some rfl rfl rfl⟩

theorem State.holdsReset_powerUp (s : State) (dram : DramStrap) (node : Octet) : (s.powerUp dram node).HoldsReset :=
  ⟨rfl, rfl, fun _ some => Sweeper.within_default some rfl rfl rfl⟩

/-- What a command makes of the holds: a run, the reset of all of them, or a new channel mask with every hold as it
was. -/
inductive State.HoldsOutcome (s t : State) : Prop
  | run (run : s.HoldsRun t)
  | reset (reset : t.HoldsReset)
  | channelsSet (o : Octet) (holds : t.holds = s.holds) (channels : t.fau.channels = channelMask o)
      (sweeper : t.sweeper = s.sweeper)

theorem one_le_clampPause (p : BitVec 16) : 1 ≤ (clampPause p).toNat := by
  unfold clampPause
  split_ifs with zero
  · decide
  · bv_omega

theorem RequestDone.holdsOutcome {s t : State} {q : Request} (done : RequestDone s q t) : s.HoldsOutcome t := by
  have stays : ∀ u : State, u.holds = s.holds → u.fau.channels = s.fau.channels → u.sweeper = s.sweeper →
      s.HoldsOutcome u := fun u holds channels sweeper => .run (State.HoldsRun.refl.aside holds channels sweeper)
  have sweeper : ∀ w : Sweeper, Sweeper.Stays s.bucketCount s.sweeper w → s.HoldsRun { s with sweeper := w } :=
    fun w => State.HoldsRun.refl.setSweeper
  cases done with
  | timeSet =>
    unfold State.setTime
    exact stays _ (by simp [State.answer]) (by simp [State.answer]) (by simp [State.answer])
  | derivedRead => exact stays _ (by simp [State.answer]) (by simp [State.answer]) (by simp [State.answer])
  | scheduled =>
    unfold State.schedule
    exact stays _ (by simp [State.answer]) (by simp [State.answer]) (by simp [State.answer])
  | banksRead => exact stays _ (by simp [State.answer]) (by simp [State.answer]) (by simp [State.answer])
  | sweepConfigured mode pause d low =>
    refine .run ((sweeper _ ?_).answer _ _ _)
    rintro ⟨-, -, round⟩
    exact ⟨one_le_clampPause pause, low, round⟩
  | sweepStarted =>
    refine .run ((sweeper _ ?_).beginBurst.answer _ _ _)
    rintro ⟨pause, pointer, -⟩
    exact ⟨pause, pointer, Nat.zero_lt_of_lt pointer⟩
  | sweepStopping x => exact .run ((sweeper { s.sweeper with state := x } id).answer _ _ _)
  | sweepStopped x => exact .run ((sweeper { s.sweeper with state := x } id).returnSweeperSlot.answer _ _ _)
  | channelsSet o => exact .channelsSet o rfl rfl rfl
  | _ => exact stays _ rfl rfl rfl

theorem State.HoldsOutcome.of_aside {s u t : State} (out : u.HoldsOutcome t) (holds : u.holds = s.holds)
    (channels : u.fau.channels = s.fau.channels) (sweeper : u.sweeper = s.sweeper)
    (count : u.bucketCount = s.bucketCount) : s.HoldsOutcome t := by
  cases out with
  | run run =>
    refine .run ?_
    have start : s.HoldsRun u := State.HoldsRun.refl.aside holds channels sweeper
    induction run with
    | refl => exact start
    | same _ holds channels stays ih => exact ih.same holds channels (count ▸ stays)
    | request _ who b ih => exact ih.request who b
    | release _ held ih => exact ih.release held
    | grantNext _ free ih => exact ih.grantNext free
  | reset reset => exact .reset reset
  | channelsSet o h c w => exact .channelsSet o (h.trans holds) c (w.trans sweeper)

/-- What each outcome of each command makes of the holds. -/
theorem Moves.holdsOutcome {s t : State} {c : Instr} (m : Moves s c t) : s.HoldsOutcome t := by
  have start : s.HoldsRun s := .refl
  have stays : ∀ u : State, u.holds = s.holds → u.fau.channels = s.fau.channels → u.sweeper = s.sweeper →
      s.HoldsOutcome u := fun u holds channels sweeper => .run (start.aside holds channels sweeper)
  have ports : ∀ {u}, s.PortsOnly u → s.HoldsOutcome u := fun only => .run (start.portsOnly only)
  cases m with
  | stay => exact .run start
  | powerUp dram node => exact .reset (s.holdsReset_powerUp dram node)
  | reset => exact .reset s.holdsReset_restart
  | secondBoundary => exact stays _ (by simp) (by simp) (by simp)
  | millisecondTick =>
    refine .run (start.same (by simp) (by simp) ?_)
    simp only [State.millisecondTick]
    split_ifs <;> exact id
  | pauseRunsOut => exact .run start.beginBurst
  | routed port f => exact ports (s.portsOnly_routeFrame port f)
  | notWellFormed port => cases port <;> exact stays _ rfl rfl rfl
  | overlength port => cases port <;> exact stays _ rfl rfl rfl
  | pauseAsserted port => cases port <;> exact stays _ rfl rfl rfl
  | pauseReleased port => cases port <;> exact stays _ rfl rfl rfl
  | frameBegin port => cases port <;> exact stays _ rfl rfl rfl
  | stationFrameEnd => exact ports s.portsOnly_endStationFrame
  | officeFrameEnd =>
    rcases s.portsOnly_endOfficeFrame with only | ⟨i, taken⟩
    · exact ports only
    · exact .reset (taken ▸ (s.endReply i).holdsReset_restart)
  | @tapFrameTaken f _ slot =>
    obtain ⟨p, m, r, h, -⟩ := s.tapFrameTaken_only f slot
    exact stays _ (by rw [h]) (by rw [h]) (by rw [h])
  | rejudged => exact .run (start.judgeRecord _ _)
  | recordBegun => exact .run ((start.setMatcher _).testRecord _)
  | slotTaken => exact .run (start.takeSlot _)
  | tapHoldGranted _ held => exact .run (State.HoldsRun.handleHold held _ _)
  | assistTaken => exact .run (start.takeAssist _ _ _ _)
  | jobTaken => exact stays _ (by simp) (by simp) (by simp)
  | computed => exact stays _ rfl rfl rfl
  | displacedSettled =>
    exact .run (((start.report _ _ _ _).releaseRef _).setFau _)
  | holdAsked => exact .run ((start.setFau _).request _ _)
  | writeBack _ held => exact .run (State.HoldsRun.writeBack held _ _)
  | examined held => exact .run (State.HoldsRun.examineBucket held _)
  | sweeperSlotTaken =>
    exact .run (((start.setSlots { s.slots with sweeperRequest := .none }).setSweeper
      (w := { s.sweeper with state := .burst }) id).request _ _)
  | powerUpPass held => exact .run (State.HoldsRun.nextPassBucket (start.aside rfl rfl rfl) held)
  | restartPass held => exact .run (State.HoldsRun.restartPassBucket held)
  | passSlotTaken => exact .run ((start.setSlots _).request _ _)
  | clearCompleted => exact stays _ (by simp [State.completeClear]) (by simp [State.completeClear]) (by simp [State.completeClear])
  | @checkEnded b =>
    obtain ⟨x, y, m, r, h, -⟩ := s.endCheck_only b
    exact stays _ (by rw [h]) (by rw [h]) (by rw [h])
  | @tokenRead token entry free =>
    have read : s.HoldsStand (s.readRecord token entry) := by
      unfold State.readRecord
      split
      · exact ⟨rfl, rfl, rfl, rfl⟩
      · exact ⟨rfl, rfl, rfl, rfl⟩
    refine .run (State.HoldsRun.grantNext ((start.stands read).setResponder _) ?_)
    exact read.holds.symm ▸ free
  | request row _ => exact (row.done _ _).holdsOutcome.of_aside rfl rfl rfl rfl

/-- Settles O9: a run of holds keeps every bucket with one holder at most, and a reset leaves one hold. -/
theorem holdsStayExclusive : Obligations.HoldsStayExclusive := by
  refine step_keeps (I := State.holdsExclusive) (fun _ _ h => h) ?_ fun s c t exclusive m => ?_
  · intro s exclusive
    unfold State.holdsExclusive
    rw [s.referencePeriod_frame.2.2.2.2.1]
    exact exclusive
  · cases m.holdsOutcome with
    | run run => exact run.exclusive exclusive
    | reset reset =>
      have sweeper : ∀ who b r, t.holds.get who = .held b r → who = .sweeper := by
        intro who b r held
        rw [reset.holds] at held
        cases who with
        | sweeper => rfl
        | _ => simp [Holds.get] at held
      exact fun b x y p q holdsX holdsY => (sweeper x b p holdsX).trans (sweeper y b q holdsY).symm
    | channelsSet _ holds =>
      unfold State.holdsExclusive
      rw [holds]
      exact exclusive

end Sys2Proof.Machine
end


section
/-!
The registers with a stated range: the bucket count and the node number as the straps give them, the Line Clock
(R128, R130, R131, R134), the Table Store's load pointer, check codes and clear in flight (R138 to R144), and, by the runs
of holds, the Sweeper's registers and the channel mask (R57, R110). The discarded settlement count is a full queue's at
most (R167).
-/
namespace Sys2Proof.Machine

open Sys2Proof

/-! ### The Line Clock (R128, R130, R131, R133, R134) -/

/-- Trim, length and phase of the second and the millisecond divider are within their ranges. -/
structure Clock.InRange (c : Clock) : Prop where
  trim : -1000 ≤ c.trim ∧ c.trim ≤ 1000
  length : 9999000 ≤ c.length ∧ c.length ≤ 10001000
  phase : c.phase < c.length
  divider : c.msDivider < 10000

theorem Clock.length_of_trim {v : Int} (low : -1000 ≤ v) (high : v ≤ 1000) :
    9999000 ≤ (10000000 - v).toNat ∧ (10000000 - v).toNat ≤ 10001000 := by omega

namespace Clock.InRange

variable {c : Clock}

/-- A second that begins takes its length from the trim. -/
theorem begins (inRange : c.InRange) {d : Clock} (trim : d.trim = c.trim) (length : d.length = (10000000 - c.trim).toNat)
    (phase : d.phase = 0) (divider : d.msDivider = c.msDivider) : d.InRange := by
  obtain ⟨low, high⟩ := inRange.trim
  have bounds := Clock.length_of_trim low high
  exact ⟨trim ▸ inRange.trim, length ▸ bounds, by omega, divider ▸ inRange.divider⟩

theorem nextSecond (inRange : c.InRange) : c.nextSecond.InRange := inRange.begins rfl rfl rfl rfl

theorem setTime (inRange : c.InRange) (t : LineTime) : (c.setTime t).InRange := inRange.begins rfl rfl rfl rfl

theorem ticked (inRange : c.InRange) : InRange { c with msDivider := 0 } :=
  ⟨inRange.trim, inRange.length, inRange.phase, by norm_num⟩

end Clock.InRange

theorem trimOf_bounds (d : BitVec 16) : -1000 ≤ trimOf d ∧ trimOf d ≤ 1000 := by
  unfold trimOf
  split_ifs with inRange
  · exact inRange
  · omega

theorem State.clockInRange_powerUp (s : State) (dram : DramStrap) (node : Octet) :
    (s.powerUp dram node).clock.InRange := by
  obtain ⟨low, high⟩ := trimOf_bounds s.clock.trimDescriptor
  have bounds := Clock.length_of_trim low high
  rw [State.clock_powerUp]
  exact ⟨⟨low, high⟩, bounds, Nat.zero_lt_of_lt bounds.1, by norm_num⟩

theorem State.clock_millisecondTick (s : State) : s.millisecondTick.clock = { s.clock with msDivider := 0 } := by
  simp only [State.millisecondTick]
  split_ifs <;> rfl

theorem RequestDone.clockInRange {s t : State} {q : Request} (done : RequestDone s q t) (inRange : s.clock.InRange) :
    t.clock.InRange := by
  cases done with
  | timeSet => simpa [State.setTime, State.answer] using inRange.setTime _
  | trimSet => exact ⟨clampTrim_bounds _, inRange.length, inRange.phase, inRange.divider⟩
  | derivedRead => simpa [State.answer] using inRange
  | scheduled => simpa [State.answer, State.schedule] using inRange
  | banksRead => simpa [State.answer] using inRange
  | sweepStarted => simpa [State.answer, State.beginBurst] using inRange
  | sweepStopped => simpa [State.answer, State.setSweep] using inRange
  | _ => exact inRange

theorem Effects.clockInRange {s t : State} {c : Instr} (e : Effects s c t) (inRange : s.clock.InRange) :
    t.clock.InRange := by
  cases e with
  | worked work => exact work.clock ▸ inRange
  | powerUp dram node => exact s.clockInRange_powerUp dram node
  | reset => exact s.clock_restart ▸ inRange
  | secondBoundary => exact s.clock_secondBoundary ▸ inRange.nextSecond
  | millisecondTick => exact s.clock_millisecondTick ▸ inRange.ticked
  | routed port f => exact (s.portsOnly_routeFrame port f).only ▸ inRange
  | stationFrameEnd => exact s.portsOnly_endStationFrame.only ▸ inRange
  | officeFrameEnd =>
    rcases s.portsOnly_endOfficeFrame with h | ⟨i, h⟩
    · exact h.only ▸ inRange
    · rw [h, State.clock_restart]
      exact inRange
  | @tapFrameTaken f _ slot _ =>
    obtain ⟨p, m, r, h, -⟩ := s.tapFrameTaken_only f slot
    exact h ▸ inRange
  | clearCompleted => simpa [State.completeClear] using inRange
  | @checkEnded b _ =>
    obtain ⟨x, y, m, r, h, -⟩ := s.endCheck_only b
    exact h ▸ inRange
  | request row _ => exact (row.done _ _).clockInRange inRange

theorem State.clockInRange_referencePeriod {s : State} (inRange : s.clock.InRange) : s.referencePeriod.clock.InRange := by
  refine State.referencePeriod_induct (P := fun u => u.clock.InRange) (fun inside => ?_) ?_ (fun u low within => ?_)
    fun u within => ?_
  · exact ⟨inRange.trim, inRange.length, inside, inRange.divider⟩
  · exact s.clock_secondBoundary ▸ inRange.nextSecond
  · exact ⟨within.trim, within.length, within.phase, low⟩
  · exact u.clock_millisecondTick ▸ within.ticked

/-! ### The Table Store (R138 to R144) -/

/-- The load pointer, the check codes and the clear in flight are within their ranges. -/
structure State.StoreInRange (s : State) : Prop where
  pointer : s.store.pointerOffset % 4 = 0 ∧ s.store.pointerOffset ≤ 16384
  codes : ∀ b, (s.bank b).checkCode ≤ 10
  clear : ∀ c, s.store.clear = some c → c.segment ≤ 15 ∧ c.reached ≤ 255

namespace State.StoreInRange

variable {s t : State}

theorem of_store (inRange : s.StoreInRange) (store : t.store = s.store) : t.StoreInRange := by
  obtain ⟨pointer, codes, clear⟩ := inRange
  exact ⟨store ▸ pointer, fun b => by rw [State.bank, store]; exact codes b, store ▸ clear⟩

theorem of_parts (inRange : s.StoreInRange) (pointer : t.store.pointerOffset = s.store.pointerOffset)
    (codes : ∀ b, (t.bank b).checkCode = (s.bank b).checkCode) (clear : t.store.clear = s.store.clear) :
    t.StoreInRange :=
  ⟨pointer ▸ inRange.pointer, fun b => codes b ▸ inRange.codes b, clear ▸ inRange.clear⟩

/-- A bank replaced by one with a check code within its range. -/
theorem setBank (inRange : s.StoreInRange) (b : BankId) {v : Bank} (code : v.checkCode ≤ 10) :
    (s.setBank b v).StoreInRange := by
  obtain ⟨-, pointer, clear⟩ := s.store.setBank_pointer b v
  refine ⟨?_, fun k => ?_, ?_⟩
  · show (s.store.setBank b v).pointerOffset % 4 = 0 ∧ (s.store.setBank b v).pointerOffset ≤ 16384
    rw [pointer]
    exact inRange.pointer
  · by_cases same : k = b
    · subst same
      rw [State.bank_setBank_self]
      exact code
    · rw [State.bank_setBank_ne _ _ same]
      exact inRange.codes k
  · show ∀ c, (s.store.setBank b v).clear = some c → _
    rw [clear]
    exact inRange.clear

theorem worked {sc : Scope} (inRange : s.StoreInRange) (work : s.Worked sc t) : t.StoreInRange :=
  inRange.of_parts work.pointer (fun b => (work.bank b).checkCode) work.clear

theorem advanceClear (inRange : s.StoreInRange) : s.advanceClear.StoreInRange := by
  unfold State.advanceClear
  split
  · next c inFlight =>
    obtain ⟨segment, reached⟩ := inRange.clear c inFlight
    obtain ⟨words, cleared⟩ : ∃ words, words = clearRange (s.words c.bank) (1024 * c.segment)
      (1024 * c.segment + 4 * max c.reached (Config.clearProgress s.freeCount % 256)) := ⟨_, rfl⟩
    obtain ⟨pointer, codes, -⟩ := inRange.setBank c.bank (v := { s.bank c.bank with words := words }) (inRange.codes c.bank)
    subst cleared
    refine ⟨pointer, codes, fun d advanced => ?_⟩
    obtain rfl := (Option.some.inj advanced).symm
    exact ⟨segment, by dsimp only; omega⟩
  · exact inRange

theorem advanceCheck (inRange : s.StoreInRange) (b : BankId) : (s.advanceCheck b).StoreInRange := by
  refine inRange.of_parts ?_ (fun k => ?_) (s.clear_advanceCheck b)
  · exact (s.pointer_advanceCheck b).2
  · rcases s.bank_advanceCheck b k with same | ⟨-, lo, hi, -, written⟩
    · rw [same]
    · rw [written]

theorem reset (inRange : s.StoreInRange) : s.restart.StoreInRange := by
  obtain ⟨-, pointer⟩ := s.pointer_restart
  refine ⟨pointer ▸ inRange.pointer, fun b => ?_, fun c inFlight => ?_⟩
  · rw [State.bank_restart]
    exact (s.bankStopped_stopStore b).checkCode ▸ inRange.codes b
  · exact absurd (s.clear_stopStore.symm.trans inFlight) (by simp)

theorem powerUp (inRange : s.StoreInRange) (dram : DramStrap) (node : Octet) : (s.powerUp dram node).StoreInRange := by
  refine ⟨⟨rfl, Nat.zero_le _⟩, fun b => ?_, fun c inFlight => ?_⟩
  · rw [State.bank_powerUp, (Bank.powerUp_kept _).2.2]
    exact (s.bankStopped_stopStore b).checkCode ▸ inRange.codes b
  · exact absurd (s.clear_stopStore.symm.trans inFlight) (by simp)

end State.StoreInRange

theorem Bank.checkCode_testSchedule (k : Bank) (now : LineTime) : (k.testSchedule now).checkCode = k.checkCode := by
  unfold Bank.testSchedule
  split
  · split_ifs <;> rfl
  · rfl

theorem Bank.checkCode_replaced (k : Bank) : k.replaced.checkCode = k.checkCode := by
  unfold Bank.replaced
  split_ifs <;> rfl

namespace State.StoreInRange

variable {s t : State}

theorem timeTrigger (inRange : s.StoreInRange) (now : LineTime) : (s.timeTrigger now).StoreInRange := by
  obtain ⟨clear, -, pointer⟩ := s.store_timeTrigger now
  refine inRange.of_parts pointer (fun b => ?_) clear
  rw [State.bank_timeTrigger]
  split_ifs
  · exact Bank.checkCode_testSchedule _ _
  · rfl

theorem testSchedule (inRange : s.StoreInRange) (now : LineTime) : (s.testSchedule now).StoreInRange :=
  inRange.worked ((State.Worked.refl {} s).testSchedule now)

theorem secondBoundary (inRange : s.StoreInRange) : s.secondBoundary.StoreInRange := by
  rw [State.secondBoundary_eq]
  have stepped : State.StoreInRange { s with clock := s.clock.nextSecond } := inRange.of_store rfl
  exact stepped.timeTrigger _

/-- A check passes with the code as it was, or fails with a step's (R138, R151). -/
theorem endCheck (inRange : s.StoreInRange) (b : BankId) : (s.endCheck b).StoreInRange := by
  cases failure : checkFailure (s.words b) with
  | none =>
    have replaced := inRange.setBank b.other (v := (s.bank b.other).replaced)
      ((Bank.checkCode_replaced _).symm ▸ inRange.codes b.other)
    have passed := replaced.setBank b (v := (s.bank b).activated) (inRange.codes b)
    rw [State.endCheck_pass failure, State.passCheck_eq]
    exact passed.of_store rfl
  | some code =>
    obtain ⟨⟨holds, step, -⟩, -⟩ := checkFailure_eq_some failure
    obtain ⟨-, high⟩ := exists_mem_checkSteps_iff.1 ⟨holds, step⟩
    have failed := inRange.setBank b (v := (s.bank b).failed code) high
    unfold State.endCheck
    rw [failure]
    exact failed.of_store rfl

end State.StoreInRange

theorem RequestDone.storeInRange {s t : State} {q : Request} (done : RequestDone s q t) (inRange : s.StoreInRange) :
    t.StoreInRange := by
  cases done with
  | timeSet =>
    have set : State.StoreInRange { s with clock := s.clock.setTime (BitVec.ofNat 32 (fieldAt q.args 0 4)) } :=
      inRange.of_store rfl
    exact (set.timeTrigger _).of_store rfl
  | clearTaken segment => exact ⟨inRange.pointer, inRange.codes, fun c taken => by
      obtain rfl := (Option.some.inj taken).symm
      exact ⟨segment, Nat.zero_le _⟩⟩
  | @unitPut b o ws d _ unit =>
    obtain ⟨-, codes, clear⟩ := inRange.setBank b (v := { s.bank b with words := writeWords (s.words b) o ws })
      (inRange.codes b)
    refine ⟨show (o + 4) % 4 = 0 ∧ o + 4 ≤ 16384 from ?_, codes, clear⟩
    have pointer := inRange.pointer
    rcases unit with unit | ⟨rfl, inside⟩
    · simp only [unitOffset, Bool.and_eq_true, beq_iff_eq, decide_eq_true_eq] at unit
      omega
    · omega
  | pointerSet _ unit => exact ⟨unit, inRange.codes, inRange.clear⟩
  | derivedRead b => exact (inRange.advanceCheck b).of_store rfl
  | @scheduled b t =>
    have put := inRange.setBank b (v := { s.bank b with state := .scheduled, activation := some t, checkCode := 0 })
      (Nat.zero_le 10)
    exact (put.testSchedule _).of_store rfl
  | @unscheduled b =>
    have put := inRange.setBank b (v := { s.bank b with state := .staging, activation := none }) (inRange.codes b)
    exact put.of_store rfl
  | banksRead => exact inRange.advanceClear.of_store rfl
  | sweepStarted => exact inRange.of_store (by simp [State.answer, State.beginBurst])
  | sweepStopped => exact inRange.of_store (by simp [State.answer, State.setSweep])
  | _ => exact inRange.of_store rfl

theorem Effects.storeInRange {s t : State} {c : Instr} (e : Effects s c t) (inRange : s.StoreInRange) :
    t.StoreInRange := by
  cases e with
  | worked work => exact inRange.worked work
  | powerUp dram node => exact inRange.powerUp dram node
  | reset => exact inRange.reset
  | secondBoundary => exact inRange.secondBoundary
  | millisecondTick => exact inRange.of_store (by simp)
  | routed port f => exact inRange.of_store (by rw [(s.portsOnly_routeFrame port f).only])
  | stationFrameEnd => exact inRange.of_store (by rw [s.portsOnly_endStationFrame.only])
  | officeFrameEnd =>
    rcases s.portsOnly_endOfficeFrame with h | ⟨i, h⟩
    · exact inRange.of_store (by rw [h.only])
    · have sent : (s.endReply i).StoreInRange := inRange.of_store rfl
      exact h ▸ sent.reset
  | @tapFrameTaken f _ slot _ =>
    obtain ⟨p, m, r, h, -⟩ := s.tapFrameTaken_only f slot
    exact inRange.of_store (by rw [h])
  | @clearCompleted c _ =>
    obtain ⟨pointer, codes, -⟩ := inRange.setBank c.bank
      (v := { s.bank c.bank with words := clearSegment (s.words c.bank) c.segment }) (inRange.codes c.bank)
    exact ⟨pointer, codes, fun d none => by simp [State.completeClear, State.fillReply] at none⟩
  | checkEnded _ => exact inRange.endCheck _
  | @request _ _ entry f q row _ => exact (row.done (s.reserve entry f) q).storeInRange (inRange.of_store rfl)

theorem State.storeInRange_referencePeriod {s : State} (inRange : s.StoreInRange) : s.referencePeriod.StoreInRange :=
  State.referencePeriod_induct (fun _ => inRange.of_store rfl) inRange.secondBoundary
    (fun _ _ within => within.of_store rfl) fun _ within => within.of_store (by simp)

/-! ### The straps (R65, R159) -/

/-- The bucket count and the node number are within their ranges. -/
structure State.StrapsInRange (s : State) : Prop where
  buckets : s.bucketCount = 4096 ∨ s.bucketCount = 8192 ∨ s.bucketCount = 16384
  node : 1 ≤ s.node.toNat ∧ s.node.toNat ≤ 254

theorem nodeOf_bounds (strap : Octet) : 1 ≤ (nodeOf strap).toNat ∧ (nodeOf strap).toNat ≤ 254 := by
  unfold nodeOf
  split_ifs with unused
  · decide
  · bv_omega

theorem State.strapsInRange_powerUp (s : State) (dram : DramStrap) (node : Octet) : (s.powerUp dram node).StrapsInRange :=
  ⟨show dramBuckets dram = _ ∨ dramBuckets dram = _ ∨ dramBuckets dram = _ by cases dram <;> decide, nodeOf_bounds node⟩

/-- A command leaves the straps' values, or powers the part up. -/
def State.strapsKept (s t : State) : Prop := t.bucketCount = s.bucketCount ∧ t.node = s.node

theorem RequestDone.strapsKept {s t : State} {q : Request} (done : RequestDone s q t) : s.strapsKept t := by
  cases done with
  | timeSet => exact ⟨by simp [State.setTime, State.answer], by simp [State.setTime, State.answer]⟩
  | derivedRead => exact ⟨by simp [State.answer], by simp [State.answer]⟩
  | scheduled => exact ⟨by simp [State.answer, State.schedule], by simp [State.answer, State.schedule]⟩
  | banksRead => exact ⟨by simp [State.answer], by simp [State.answer]⟩
  | sweepStarted => exact ⟨by simp [State.answer, State.beginBurst], by simp [State.answer, State.beginBurst]⟩
  | sweepStopped => exact ⟨by simp [State.answer, State.setSweep], by simp [State.answer, State.setSweep]⟩
  | _ => exact ⟨rfl, rfl⟩

theorem State.strapsKept_restart (s : State) : s.strapsKept s.restart := by
  obtain ⟨-, -, -, count, node, -⟩ := s.stopStore_frame
  exact ⟨count, node⟩

theorem Effects.straps {s t : State} {c : Instr} (e : Effects s c t) :
    s.strapsKept t ∨ ∃ dram node, t = s.powerUp dram node := by
  cases e with
  | worked work => exact .inl ⟨work.bucketCount, work.node⟩
  | powerUp dram node => exact .inr ⟨dram, node, rfl⟩
  | reset => exact .inl s.strapsKept_restart
  | secondBoundary => exact .inl ⟨by simp, by simp⟩
  | millisecondTick => exact .inl ⟨by simp, by simp⟩
  | routed port f =>
    rw [(s.portsOnly_routeFrame port f).only]
    exact .inl ⟨rfl, rfl⟩
  | stationFrameEnd =>
    rw [s.portsOnly_endStationFrame.only]
    exact .inl ⟨rfl, rfl⟩
  | officeFrameEnd =>
    rcases s.portsOnly_endOfficeFrame with h | ⟨i, h⟩
    · rw [h.only]
      exact .inl ⟨rfl, rfl⟩
    · exact .inl (h ▸ (s.endReply i).strapsKept_restart)
  | @tapFrameTaken f _ slot _ =>
    obtain ⟨p, m, r, h, -⟩ := s.tapFrameTaken_only f slot
    rw [h]
    exact .inl ⟨rfl, rfl⟩
  | clearCompleted => exact .inl ⟨by simp [State.completeClear], by simp [State.completeClear]⟩
  | @checkEnded b _ =>
    obtain ⟨x, y, m, r, h, -⟩ := s.endCheck_only b
    rw [h]
    exact .inl ⟨rfl, rfl⟩
  | @request _ _ entry f q row _ => exact .inl (row.done (s.reserve entry f) q).strapsKept

/-! ### All of them -/

/-- The registers with a range are those of the straps, the clock, the Table Store, the Sweeper and the mask. -/
theorem State.registersInRange_iff (s : State) : s.registersInRange ↔ s.StrapsInRange ∧ s.clock.InRange ∧
    s.StoreInRange ∧ s.sweeper.Within s.bucketCount ∧ s.channelZero := by
  constructor
  · rintro ⟨buckets, node, trim, ⟨low, high, phase⟩, divider, pointer, sweeper, zero, ⟨codeA, codeB⟩, clear⟩
    exact ⟨⟨buckets, node⟩, ⟨trim, ⟨low, high⟩, phase, divider⟩, ⟨pointer, fun b => by cases b <;> assumption, clear⟩,
      sweeper, zero⟩
  · rintro ⟨⟨buckets, node⟩, ⟨trim, ⟨low, high⟩, phase, divider⟩, ⟨pointer, codes, clear⟩, sweeper, zero⟩
    exact ⟨buckets, node, trim, ⟨low, high, phase⟩, divider, pointer, sweeper, zero, ⟨codes .A, codes .B⟩, clear⟩

/-- Both resets enable every channel, and the Sweeper's hold reads so (R57). -/
theorem State.HoldsReset.channelZero {t : State} (reset : t.HoldsReset) : t.channelZero := by
  refine ⟨by rw [reset.channels]; decide, fun who b r held => ?_⟩
  rw [reset.holds] at held
  cases who with
  | fau => simp [Holds.get] at held
  | matcher => simp [Holds.get] at held
  | sweeper =>
    obtain ⟨-, rfl⟩ := Hold.held_inj held
    decide

/-- Channel 0 is always enabled (R57, R177). -/
theorem channelZero_channelMask (o : Octet) : (channelMask o).getLsbD 0 = true := by
  simp [channelMask]

theorem Moves.channelZero {s t : State} {c : Instr} (m : Moves s c t) (zero : s.channelZero) : t.channelZero := by
  cases m.holdsOutcome with
  | run run => exact run.channelZero zero
  | reset reset => exact reset.channelZero
  | channelsSet o holds channels => exact ⟨channels ▸ channelZero_channelMask o, holds ▸ zero.2⟩

/-- The Sweeper's registers stay within their ranges, over the bucket count as it then is. -/
theorem Moves.sweeperWithin {s t : State} {c : Instr} (m : Moves s c t) (within : s.sweeper.Within s.bucketCount)
    (straps : t.StrapsInRange) : t.sweeper.Within t.bucketCount := by
  have some : 0 < t.bucketCount := by
    have := straps.buckets
    omega
  rcases m.effects.straps with kept | ⟨dram, node, rfl⟩
  · rw [kept.1]
    cases m.holdsOutcome with
    | run run => exact run.sweeper within
    | reset reset => exact reset.sweeper _ (kept.1 ▸ some)
    | channelsSet _ _ _ sweeper => exact sweeper ▸ within
  · exact (s.holdsReset_powerUp dram node).sweeper _ some

theorem Moves.registersInRange {s t : State} {c : Instr} (m : Moves s c t) (inRange : s.registersInRange) :
    t.registersInRange := by
  obtain ⟨straps, clock, store, sweeper, zero⟩ := s.registersInRange_iff.1 inRange
  have after : t.StrapsInRange := by
    rcases m.effects.straps with ⟨count, node⟩ | ⟨dram, node, rfl⟩
    · exact ⟨count ▸ straps.buckets, node ▸ straps.node⟩
    · exact s.strapsInRange_powerUp dram node
  exact t.registersInRange_iff.2 ⟨after, m.effects.clockInRange clock, m.effects.storeInRange store,
    m.sweeperWithin sweeper after, m.channelZero zero⟩

theorem State.sweeper_referencePeriod (s : State) (n : Nat) : Sweeper.Stays n s.sweeper s.referencePeriod.sweeper := by
  refine State.referencePeriod_induct (P := fun u => Sweeper.Stays n s.sweeper u.sweeper) (fun _ => id) (by simp)
    (fun _ _ stays => stays) fun u stays within => ?_
  have before := stays within
  simp only [State.millisecondTick]
  split_ifs <;> exact before

theorem State.registersInRange_referencePeriod {s : State} (inRange : s.registersInRange) :
    s.referencePeriod.registersInRange := by
  obtain ⟨straps, clock, store, sweeper, zero⟩ := s.registersInRange_iff.1 inRange
  obtain ⟨-, -, count, node, holds, -, fau, -⟩ := s.referencePeriod_frame
  refine s.referencePeriod.registersInRange_iff.2 ⟨⟨count ▸ straps.buckets, node ▸ straps.node⟩,
    State.clockInRange_referencePeriod clock, State.storeInRange_referencePeriod store,
    count ▸ s.sweeper_referencePeriod _ sweeper, fau ▸ zero.1, holds ▸ zero.2⟩

/-! ### The discarded settlements (R167) -/

theorem RequestDone.discarded {s t : State} {q : Request} (done : RequestDone s q t) :
    t.responder.discardedSettlements = s.responder.discardedSettlements := by
  cases done with
  | timeSet => simp [State.setTime, State.answer]
  | derivedRead => simp [State.answer]
  | scheduled => simp [State.answer, State.schedule]
  | banksRead => simp [State.answer]
  | sweepStarted => simp [State.answer, State.beginBurst]
  | sweepStopped => simp [State.answer, State.setSweep]
  | _ => rfl

/-- A restart counts the settlements that the queue holds, and a power-up none; nothing else changes the count. -/
theorem Effects.discarded {s t : State} {c : Instr} (e : Effects s c t) :
    t.responder.discardedSettlements = s.responder.discardedSettlements ∨
      t.responder.discardedSettlements ≤ s.office.settlements.length := by
  cases e with
  | worked work => exact .inl work.discarded
  | powerUp dram node => exact .inr (Nat.zero_le _)
  | reset => exact .inr le_rfl
  | secondBoundary => exact .inl (by simp)
  | millisecondTick => exact .inl (by simp)
  | routed port f => exact .inl (s.portsOnly_routeFrame port f).discarded
  | stationFrameEnd => exact .inl s.portsOnly_endStationFrame.discarded
  | officeFrameEnd =>
    rcases s.portsOnly_endOfficeFrame with h | ⟨i, h⟩
    · exact .inl h.discarded
    · exact .inr (h ▸ le_rfl)
  | @tapFrameTaken f _ slot _ =>
    obtain ⟨p, m, r, h, discarded, -⟩ := s.tapFrameTaken_only f slot
    exact .inl (h ▸ discarded)
  | clearCompleted => exact .inl (by simp [State.completeClear])
  | @checkEnded b _ =>
    obtain ⟨x, y, m, r, h, discarded⟩ := s.endCheck_only b
    exact .inl (h ▸ discarded)
  | @request _ _ entry f q row _ => exact .inl (row.done (s.reserve entry f) q).discarded

/-- Settles O10: each group of registers by what can change it, and the discarded settlements by the queue's capacity. -/
theorem registersStayInRange : Obligations.RegistersStayInRange := by
  refine ⟨step_keeps (I := State.registersInRange) (fun _ _ h => h) (fun _ => State.registersInRange_referencePeriod)
    fun _ _ _ inRange moves => moves.registersInRange inRange, ?_⟩
  have keeps : ∀ s t : State, s.settlementsWithin ∧ s.responder.discardedSettlements ≤ 64 → step s = .next t →
      t.settlementsWithin ∧ t.responder.discardedSettlements ≤ 64 :=
    step_keeps (I := fun s => s.settlementsWithin ∧ s.responder.discardedSettlements ≤ 64) (fun _ _ h => h)
      (fun s h => by simpa [State.settlementsWithin] using h)
      fun s c t ⟨within, low⟩ moves => ⟨moves.settlementsWithin within, moves.effects.discarded.elim (fun same => same ▸ low)
        fun counted => counted.trans (by unfold State.settlementsWithin at within; omega)⟩
  exact fun s t within low run => (keeps s t ⟨(s.withinCapacity_iff.1 within).2, low⟩ run).2

end Sys2Proof.Machine
end


section
/-!
Job slots and reservations (R21 to R27): each command submits a job for each slot it held or found free alone, and leaves
the Matcher's request and reservations as its work state says.
-/
namespace Sys2Proof.Machine

open Sys2Proof

/-- The Sweeper holds at most one slot, and none while it waits for one (R25). -/
def Slots.sweeperSound (x : Slots) : Prop := x.sweeperReserved ≤ 1 ∧ (x.sweeperRequest = .waiting → x.sweeperReserved = 0)

/-- No slot request of the Matcher stands, whatever it has in work: the slots fit, and it has at most two reserved. -/
structure State.SlotsUnasked (s : State) : Prop where
  fits : s.fau.jobs.length + s.slots.matcherReserved + s.slots.sweeperReserved ≤ 8
  request : s.slots.matcherRequest = .none
  reserved : s.slots.matcherReserved ≤ 2
  sweeper : s.slots.sweeperSound

namespace State

variable {s t : State}

/-- The slots after a change of other things. -/
theorem slotsSound.of_same (sound : s.slotsSound) (jobs : t.fau.jobs.length = s.fau.jobs.length)
    (slots : t.slots = s.slots) (work : t.matcher.work = s.matcher.work) : t.slotsSound := by
  unfold State.slotsSound
  rw [jobs, slots, work]
  exact sound

theorem slotsSound.of_matcher (sound : s.slotsSound) (fau : t.fau = s.fau) (slots : t.slots = s.slots)
    (matcher : t.matcher = s.matcher) : t.slotsSound := sound.of_same (by rw [fau]) slots (by rw [matcher])

theorem SlotsUnasked.of_same (free : s.SlotsUnasked) (jobs : t.fau.jobs.length = s.fau.jobs.length)
    (slots : t.slots = s.slots) : t.SlotsUnasked := by
  obtain ⟨fits, request, reserved, sweeper⟩ := free
  exact ⟨by rw [jobs, slots]; exact fits, slots ▸ request, slots ▸ reserved, slots ▸ sweeper⟩

theorem slotsSound.makeRef (sound : s.slotsSound) (b : BankId) : (s.makeRef b).slotsSound :=
  sound.of_matcher (by simp) (by simp) (by simp)

theorem slotsSound.releaseRef (sound : s.slotsSound) (b : BankId) : (s.releaseRef b).slotsSound :=
  sound.of_matcher (by simp) (by simp) (by simp)

/-- The arbiter's grants keep the slots sound (R22). -/
theorem slotsSound.arbitrate (sound : s.slotsSound) : s.arbitrate.slotsSound := by
  obtain ⟨fits, work, reserved, waits⟩ := sound
  obtain ⟨matcher, sweeper⟩ := s.slots_arbitrate
  have fits' := s.arbitrate_le fits
  have frame : s.arbitrate.fau = s.fau ∧ s.arbitrate.matcher = s.matcher := ⟨by simp, by simp⟩
  unfold State.slotsSound
  rw [frame.1, frame.2]
  refine ⟨fits', ?_, ?_⟩
  · rcases matcher with ⟨request, same⟩ | ⟨waiting, granted, more⟩
    · rwa [request, same]
    · rw [granted, more]
      rw [waiting] at work
      revert work
      cases s.matcher.work <;> simp [MatcherWork.slotsSound]
  · rcases sweeper with ⟨request, same⟩ | ⟨waiting, granted, more⟩
    · rw [request, same]
      exact ⟨reserved, waits⟩
    · have none := waits waiting
      rw [granted, more, none]
      exact ⟨le_rfl, by simp⟩

/-! ### The Matcher's slots (R23, R24) -/

/-- The Matcher with a work state that stands without a request. -/
theorem slotsSound.unasked (sound : s.slotsSound)
    (work : s.matcher.work = .none ∨ ∃ h, s.matcher.work = .rejudge h) : s.SlotsUnasked := by
  obtain ⟨fits, stands, sweeper⟩ := sound
  have request : s.slots.matcherRequest = .none ∧ s.slots.matcherReserved ≤ 2 := by
    rcases work with work | ⟨h, work⟩ <;> rw [work] at stands <;> obtain ⟨request, reserved⟩ := stands <;>
      exact ⟨request, by omega⟩
  exact ⟨fits, request.1, request.2, sweeper⟩

/-- The Matcher without a record in work returns what it has reserved (R106). -/
theorem slotsSound_returnMatcherSlots (fits : s.fau.jobs.length + s.slots.sweeperReserved ≤ 8)
    (request : s.slots.matcherRequest = .none) (sweeper : s.slots.sweeperSound) (work : s.matcher.work = .none) :
    s.returnMatcherSlots.slotsSound := by
  refine slotsSound.arbitrate ⟨fits, ?_, sweeper⟩
  show s.matcher.work.slotsSound _ _
  rw [work]
  exact ⟨request, rfl⟩

theorem slotsSound_endWork (fits : s.fau.jobs.length + s.slots.sweeperReserved ≤ 8)
    (request : s.slots.matcherRequest = .none) (sweeper : s.slots.sweeperSound) (h : Handling) :
    (s.endWork h).slotsSound := by
  unfold State.endWork
  dsimp only
  split
  · exact slotsSound_returnMatcherSlots fits request sweeper rfl
  · exact slotsSound_returnMatcherSlots fits request sweeper rfl

namespace SlotsUnasked

theorem refuseRecord (free : s.SlotsUnasked) (h : Handling) (k : VerdictKind) : (s.refuseRecord h k).slotsSound := by
  have verdict : (((s.setVerdict h (filledEntry k {})).count Counters.addTaken).count Counters.addRefused).SlotsUnasked :=
    free.of_same (by simp) (by simp)
  have fits := verdict.fits
  exact slotsSound_endWork (by omega) verdict.request verdict.sweeper h

/-- The Matcher asks for its first slot, or its second, with one fewer reserved (R23, R24). -/
theorem asks (free : s.SlotsUnasked) {w : MatcherWork}
    (work : w.slotsSound .waiting s.slots.matcherReserved) : (s.seekSlot w).slotsSound :=
  slotsSound.arbitrate (s := { s.setWork w with slots := { s.slots with matcherRequest := .waiting } })
    ⟨free.fits, work, free.sweeper⟩

theorem seekHold (free : s.SlotsUnasked) (h : Handling) (some : s.slots.matcherReserved ≠ 0) :
    (s.seekHold h).slotsSound := by
  have sound : (s.setWork (.waitHold h)).slotsSound :=
    ⟨free.fits, ⟨free.request, by have := free.reserved; show s.slots.matcherReserved = 1 ∨ s.slots.matcherReserved = 2; omega⟩,
      free.sweeper⟩
  exact sound.of_matcher (by simp [State.seekHold]) (by simp [State.seekHold]) (by simp [State.seekHold])

theorem judgeRecord (free : s.SlotsUnasked) (h : Handling) (b : BankId) : (s.judgeRecord h b).slotsSound := by
  unfold State.judgeRecord
  dsimp only
  split_ifs
  · exact refuseRecord (free.of_same (by simp) (by simp)) _ _
  · exact free.refuseRecord _ _
  · unfold State.admitRecord
    split_ifs with none
    · exact free.asks (.inl ⟨rfl, none⟩)
    · exact free.seekHold _ none

theorem testRecord (free : s.SlotsUnasked) (h : Handling) : (s.testRecord h).slotsSound := by
  unfold State.testRecord
  split
  · exact free.refuseRecord _ _
  · split_ifs
    · exact free.refuseRecord _ _
    · exact free.judgeRecord _ _

end SlotsUnasked

/-- A granted slot leaves the Matcher with one or two reserved and no request. -/
theorem slotsSound.takeSlot (sound : s.slotsSound) {h : Handling}
    (work : s.matcher.work = .waitReservation h ∨ s.matcher.work = .waitSecond h)
    (granted : s.slots.matcherRequest = .granted) : (s.takeSlot h).slotsSound := by
  obtain ⟨fits, stands, sweeper⟩ := sound
  have reserved : s.slots.matcherReserved = 1 ∨ s.slots.matcherReserved = 2 := by
    rcases work with work | work <;> rw [work, granted] at stands
    · exact .inl (by simpa [MatcherWork.slotsSound] using stands)
    · exact .inr (by simpa [MatcherWork.slotsSound] using stands)
  have free : State.SlotsUnasked { s with slots := { s.slots with matcherRequest := .none } } :=
    ⟨fits, rfl, by show s.slots.matcherReserved ≤ 2; omega, sweeper⟩
  exact free.seekHold h (by show s.slots.matcherReserved ≠ 0; omega)

theorem slotsSound.takeAssist (sound : s.slotsSound) (work : s.matcher.work = .none) (k : Token) (station gate : Octet)
    (i : Nat) : (s.takeAssist k station gate i).slotsSound := by
  have stands : s.matcher.work.slotsSound s.slots.matcherRequest s.slots.matcherReserved := sound.2.1
  rw [work] at stands
  have free := sound.unasked (.inl work)
  unfold State.takeAssist
  split
  · exact sound.of_matcher rfl rfl rfl
  · split_ifs
    · exact sound.of_matcher rfl rfl rfl
    · have taken : SlotsUnasked { s with responder := { s.responder with inWork := some (.assistTaken i) } } :=
        free.of_same rfl rfl
      exact taken.asks (.inl ⟨rfl, stands.2⟩)

theorem slots_countTaken (s : State) (h : Handling) : (s.countTaken h).slots = s.slots := by
  unfold State.countTaken
  split <;> rfl

theorem fau_countTaken (s : State) (h : Handling) : (s.countTaken h).fau = s.fau := by
  unfold State.countTaken
  split <;> rfl

/-- A hold ends with no more jobs than its reservations cover (R23, R24, R106). -/
theorem slotsSound.handleHold (sound : s.slotsSound) {h : Handling} (work : s.matcher.work = .waitHold h) (b : Nat)
    (now : LineTime) : (s.handleHold b h now).slotsSound := by
  obtain ⟨fits, stands, sweeper⟩ := sound
  rw [work] at stands
  obtain ⟨request, reserved⟩ := stands
  have ends := State.HoldEnds.handleHold s b h now
  generalize s.handleHold b h now = u at ends ⊢
  cases ends with
  | @waits w same =>
    have after : (s.setWork w).slotsSound := by
      refine ⟨fits, ?_, sweeper⟩
      show w.slotsSound s.slots.matcherRequest s.slots.matcherReserved
      rcases same with rfl | rfl | rfl <;> exact ⟨request, reserved⟩
    exact after.of_matcher (by simp [State.waitAfterHold]) (by simp [State.waitAfterHold]) (by simp [State.waitAfterHold])
  | asks one =>
    rw [State.waitAfterHold_eq]
    refine slotsSound.arbitrate ⟨fits, .inl ⟨rfl, ?_⟩, sweeper⟩
    show s.slots.matcherReserved = 1
    omega
  | @ends n u prepared covered =>
    have jobs := prepared.jobs
    obtain ⟨sweeperRequest, sweeperReserved⟩ := prepared.sweeperSlots
    have slots : ((u.releaseHold .matcher b).countTaken h).slots = u.slots := by
      rw [State.slots_countTaken]
      simp
    have fau : ((u.releaseHold .matcher b).countTaken h).fau = u.fau := by
      rw [State.fau_countTaken]
      simp
    refine slotsSound_endWork ?_ ?_ ?_ h
    · rw [slots, fau, jobs, sweeperReserved]
      omega
    · rw [slots, prepared.request, request]
    · rw [slots, Slots.sweeperSound, sweeperRequest, sweeperReserved]
      exact sweeper

/-! ### The FAU's jobs and notices (R21, R22, R76) -/

theorem slotsSound.setWork (sound : s.slotsSound) {v w : MatcherWork} (before : s.matcher.work = v)
    (same : ∀ r n, v.slotsSound r n → w.slotsSound r n) : (s.setWork w).slotsSound :=
  ⟨sound.1, same _ _ (before ▸ sound.2.1), sound.2.2⟩

/-- A Matcher that has its notice keeps what it has reserved. -/
theorem slotsSound.notice (sound : s.slotsSound) (b : Nat) (k : Token) : (s.notice b k).slotsSound := by
  unfold State.notice
  split
  · next h work =>
    split_ifs
    · have seeks := sound.setWork (w := .waitHold h) work fun _ _ stands => stands
      exact seeks.of_matcher (by simp [State.setWork]) (by simp [State.setWork]) (by simp [State.setWork])
    · exact sound
  · next h work =>
    split_ifs
    · have seeks := sound.setWork (w := .waitHold h) work fun _ _ stands => stands
      exact seeks.of_matcher (by simp [State.setWork]) (by simp [State.setWork]) (by simp [State.setWork])
    · exact sound
  · exact sound

theorem slotsSound.releaseFau (sound : s.slotsSound) (b : Nat) (job : Job) (removed : Bool) :
    (s.releaseFau b job removed).slotsSound := by
  unfold State.releaseFau
  dsimp only
  split_ifs
  · exact (sound.notice b job.token).of_same (by simp [State.setFau]) (by simp [State.setFau]) (by simp [State.setFau])
  · exact sound.of_same (by simp [State.setFau]) (by simp [State.setFau]) (by simp [State.setFau])

theorem slotsSound.report (sound : s.slotsSound) (job : Job) (r : FareResult) (c : Charge) (channels : BitVec 4) :
    (s.report job r c channels).slotsSound := by
  unfold State.report State.answerJob
  dsimp only
  split
  · exact sound.of_same rfl rfl rfl
  · exact sound.of_same (by simp [State.appendSettlement]) (by simp [State.appendSettlement])
      (by simp [State.appendSettlement])
  · exact sound.of_same rfl rfl rfl

theorem slotsSound.settleParts (sound : s.slotsSound) (b w : Nat) (job : Job) (old : TokenRecord) (c : Charge)
    (now : LineTime) : (s.settleParts b w job old c now).slotsSound := by
  unfold State.settleParts
  split
  · split_ifs
    · exact sound.of_matcher (by simp) (by simp) (by simp)
    · exact sound.of_matcher (by simp) (by simp) (by simp)
  · exact sound.of_matcher (by simp) (by simp) (by simp)

theorem slotsSound.writeBack (sound : s.slotsSound) (b : Nat) (job : Job) (r : FareResult) (read : Reading) :
    (s.writeBack b job r read).slotsSound := by
  unfold State.writeBack
  split
  · exact ((sound.settleParts _ _ _ _ _ _).report _ _ _ _).releaseFau _ _ _
  · exact (sound.report _ _ _ _).releaseFau _ _ _

/-- The slot of the job taken is free for the arbiter (R21, R22). -/
theorem slotsSound.takeJob (sound : s.slotsSound) {job : Job} {rest : List Job} (queued : s.fau.jobs = job :: rest)
    {f : Fau} (jobs : f.jobs = rest) : ({ s with fau := f } : State).arbitrate.slotsSound := by
  obtain ⟨fits, others⟩ := sound
  refine slotsSound.arbitrate ⟨?_, others⟩
  show f.jobs.length + s.slots.matcherReserved + s.slots.sweeperReserved ≤ 8
  rw [queued, List.length_cons] at fits
  rw [jobs]
  omega

/-! ### The Sweeper's slots (R25, R117, R119, R124) -/

/-- A job goes into the slot at hand. -/
theorem slotsSound.submitSweeper (sound : s.slotsSound) (atHand : s.sweeperSlotAtHand = true) (job : Job) :
    (s.submitSweeper job).slotsSound := by
  obtain ⟨fits, work, reserved, waits⟩ := sound
  rw [State.sweeperSlotAtHand_iff, State.freeSlots, Config.jobSlots] at atHand
  have submitted : (s.submitSweeper job).fau.jobs.length = s.fau.jobs.length + 1 := List.length_append
  refine ⟨?_, work, ?_, fun waiting => ?_⟩
  · rw [submitted]
    show s.fau.jobs.length + 1 + s.slots.matcherReserved + (s.slots.sweeperReserved - 1) ≤ 8
    omega
  · show s.slots.sweeperReserved - 1 ≤ 1
    omega
  · show s.slots.sweeperReserved - 1 = 0
    have := waits waiting
    omega

/-- The Sweeper returns its slot and withdraws its request, and a Matcher that waits may have the slot (R22, R25). -/
theorem slotsSound.returnSweeperSlot (sound : s.slotsSound) : s.returnSweeperSlot.slotsSound := by
  obtain ⟨fits, work, -⟩ := sound
  refine slotsSound.arbitrate ⟨?_, work, Nat.zero_le _, fun _ => rfl⟩
  show s.fau.jobs.length + s.slots.matcherReserved + 0 ≤ 8
  omega

/-- The Sweeper that has no slot at hand waits for one. -/
theorem slotsSound.requestSweeperSlot (sound : s.slotsSound) (notAtHand : s.sweeperSlotAtHand = false) :
    s.requestSweeperSlot.slotsSound := by
  obtain ⟨fits, work, reserved, -⟩ := sound
  refine slotsSound.arbitrate ⟨fits, work, reserved, fun _ => ?_⟩
  simp only [State.sweeperSlotAtHand, Bool.or_eq_false_iff, decide_eq_false_iff_not] at notAtHand
  exact Nat.eq_zero_of_not_pos notAtHand.1

theorem slotsSound.takeSweeperSlot (sound : s.slotsSound) :
    ({ s with slots := { s.slots with sweeperRequest := .none } } : State).slotsSound :=
  ⟨sound.1, sound.2.1, sound.2.2.1, fun waiting => by simp at waiting⟩

/-- The slots are sound after some ways, and the Sweeper that stopped among them has no slot at hand. -/
structure SlotsWorked (t : State) (blocked : Prop) : Prop where
  sound : t.slotsSound
  full : blocked → t.sweeperSlotAtHand = false

theorem slotsSound.examineWay (sound : s.slotsSound) (b w : Nat) (now : LineTime) :
    SlotsWorked (s.examineWay b w now).1 ((s.examineWay b w now).2 = true) := by
  have dropped : ∀ r, (s.dropOverdue b w r now).1.slotsSound := by
    intro r
    unfold State.dropOverdue
    split
    · split_ifs
      · exact sound.of_matcher (by simp) (by simp) (by simp)
      · exact sound
    · exact sound
  unfold State.examineWay
  split
  · split_ifs
    · exact ⟨sound, by simp⟩
    · next r _ _ =>
      unfold State.examineRecord
      specialize dropped r
      generalize s.dropOverdue b w r now = d at dropped
      obtain ⟨u, q⟩ := d
      dsimp only at dropped ⊢
      split
      · split_ifs with due atHand
        · refine ⟨slotsSound.submitSweeper ?_ ?_ _, by simp⟩
          · exact dropped.of_matcher rfl rfl rfl
          · exact atHand
        · exact ⟨dropped, fun _ => by simpa using atHand⟩
        · exact ⟨dropped, by simp⟩
      · split_ifs
        · exact ⟨dropped.of_matcher rfl rfl rfl, by simp⟩
        · exact ⟨dropped, by simp⟩
  · exact ⟨sound, by simp⟩

theorem slotsSound.examineWays (b : Nat) (now : LineTime) : ∀ (ws : List Nat) {s : State}, s.slotsSound →
    SlotsWorked (s.examineWays b now ws).1 ((s.examineWays b now ws).2 = true)
  | [], s, sound => ⟨sound, by simp [State.examineWays]⟩
  | w :: ws, s, sound => by
    have one := sound.examineWay b w now
    unfold State.examineWays
    split
    · next u hu =>
      rw [hu] at one
      exact one
    · next u hu =>
      rw [hu] at one
      exact slotsSound.examineWays b now ws one.sound

theorem slotsSound.countParts (sound : s.slotsSound) (r : TokenRecord) : (s.countParts r).slotsSound := by
  rw [(s.countParts_eq r).1]
  exact sound.of_matcher rfl rfl rfl

theorem slotsSound.passWay (sound : s.slotsSound) (b w : Nat) :
    SlotsWorked (s.passWay b w).1 ((s.passWay b w).2 = true) := by
  unfold State.passWay
  split
  · split
    · split_ifs with atHand
      · refine ⟨slotsSound.countParts ?_ _, by simp⟩
        unfold State.resubmit
        dsimp only
        have put : ∀ r, (s.putWay b w r).slotsSound := fun r => sound.of_matcher rfl rfl rfl
        exact (slotsSound.submitSweeper (put _) atHand _).makeRef _
      · exact ⟨sound, fun _ => by simpa using atHand⟩
    · exact ⟨sound.countParts _, by simp⟩
  · exact ⟨sound, by simp⟩

theorem slotsSound.passWays (b : Nat) : ∀ (ws : List Nat) {s : State}, s.slotsSound →
    SlotsWorked (s.passWays b ws).1 ((s.passWays b ws).2 ≠ none)
  | [], s, sound => ⟨sound, by simp [State.passWays]⟩
  | w :: ws, s, sound => by
    have one := sound.passWay b w
    unfold State.passWays
    split
    · next u hu =>
      rw [hu] at one
      exact ⟨one.sound, fun _ => one.full rfl⟩
    · next u hu =>
      rw [hu] at one
      exact slotsSound.passWays b ws one.sound

theorem sweeperSlotAtHand_congr (fau : t.fau = s.fau) (slots : t.slots = s.slots) :
    t.sweeperSlotAtHand = s.sweeperSlotAtHand := by
  rw [State.sweeperSlotAtHand, State.sweeperSlotAtHand, State.freeSlots, State.freeSlots, fau, slots]

theorem slotsSound.examineBucket (sound : s.slotsSound) (b : Nat) (now : LineTime) :
    (s.examineBucket b now).slotsSound := by
  have all := slotsSound.examineWays b now (List.range Config.ways) sound
  unfold State.examineBucket
  split
  · next u hu =>
    rw [hu] at all
    obtain ⟨worked, full⟩ := all
    unfold State.blocked
    dsimp only
    split_ifs
    · exact worked.of_matcher (by simp) (by simp) (by simp)
    · refine slotsSound.requestSweeperSlot (worked.of_matcher (by simp) (by simp) (by simp)) ?_
      rw [sweeperSlotAtHand_congr (s := u) (by simp) (by simp)]
      exact full rfl
  · next u hu =>
    rw [hu] at all
    have examined : State.slotsSound ({ u with sweeper := u.sweeper.examined u.bucketCount }.releaseHold .sweeper b) :=
      all.sound.of_matcher (by simp) (by simp) (by simp)
    have returned := examined.returnSweeperSlot
    unfold State.fullyExamined State.continueBurst
    dsimp only
    split_ifs
    · exact returned.of_matcher (by simp) (by simp) (by simp)
    · exact returned.of_matcher rfl rfl rfl

theorem slotsSound.endStartPass (sound : s.slotsSound) : s.endStartPass.slotsSound := by
  have idle : State.slotsSound { s with sweeper := { state := .idle }, store := { s.store with bankA := s.store.bankA.settle, bankB := s.store.bankB.settle } } :=
    sound.of_matcher rfl rfl rfl
  exact idle.returnSweeperSlot.of_same (by simp [State.endStartPass]) (by simp [State.endStartPass]) (by simp [State.endStartPass])

theorem slotsSound.nextPassBucket (sound : s.slotsSound) (b : Nat) : (s.nextPassBucket b).slotsSound := by
  have released : (s.releaseHold .sweeper b).slotsSound := sound.of_matcher (by simp) (by simp) (by simp)
  unfold State.nextPassBucket
  dsimp only
  split_ifs
  · exact released.of_matcher (by simp) (by simp) (by simp)
  · exact released.endStartPass

theorem slotsSound.fillUndefined (sound : s.slotsSound) (b : Nat) : (s.fillUndefined b).slotsSound := by
  have puts : ∀ (g : Nat → Option TokenRecord) (ws : List Nat) {u : State}, u.slotsSound →
      (ws.foldl (fun u w => u.putWay b w (g w)) u).slotsSound := by
    intro g ws
    induction ws with
    | nil => exact id
    | cons w ws ih => exact fun {u} before => ih (u := u.putWay b w (g w)) (before.of_matcher rfl rfl rfl)
  unfold State.fillUndefined
  split_ifs
  · exact sound
  · obtain ⟨filled, is⟩ : ∃ filled, filled = (List.range Config.ways).foldl
        (fun u w => u.putWay b w (Config.undefinedWay s.freeCount (wayKey b w))) s := ⟨_, rfl⟩
    have written : filled.slotsSound := is ▸ puts _ _ sound
    exact is ▸ written.of_matcher (t := { filled with dramWritten := b + 1, freeCount := s.freeCount + 1 }) rfl rfl rfl

theorem slotsSound.restartPassBucket (sound : s.slotsSound) (b : Nat) : (s.restartPassBucket b).slotsSound := by
  have all := slotsSound.passWays b (waysFrom (s.fillUndefined b).sweeper.passWay) (sound.fillUndefined b)
  unfold State.restartPassBucket
  dsimp only
  split
  · next u w hu =>
    rw [hu] at all
    refine slotsSound.requestSweeperSlot (all.sound.of_matcher (by simp) (by simp) (by simp)) ?_
    rw [sweeperSlotAtHand_congr (s := u) (by simp) (by simp)]
    exact all.full (by simp)
  · next u hu =>
    rw [hu] at all
    exact all.sound.nextPassBucket b

theorem slotsSound.timeTrigger (sound : s.slotsSound) (now : LineTime) : (s.timeTrigger now).slotsSound := by
  refine sound.of_same (by simp) (by simp) ?_
  rw [State.matcher_timeTrigger]
  split_ifs <;> rfl

theorem slotsSound.secondBoundary (sound : s.slotsSound) : s.secondBoundary.slotsSound := by
  have stepped : State.slotsSound { s with clock := s.clock.nextSecond } := sound
  rw [State.secondBoundary_eq]
  exact stepped.timeTrigger _

/-! ### The check and the ports -/

/-- A check that passes changes what is known of a record in work, not how far it has come (log 31). -/
theorem slotsSound.endCheck (sound : s.slotsSound) (b : BankId) : (s.endCheck b).slotsSound := by
  cases failure : checkFailure (s.words b) with
  | none =>
    rw [State.endCheck_pass failure, State.passCheck_eq]
    exact ⟨sound.1, by simpa using sound.2.1, sound.2.2⟩
  | some code =>
    unfold State.endCheck
    rw [failure]
    exact sound.of_matcher (by simp [State.endCheckAs, State.failCheckAt]) (by simp [State.endCheckAs, State.failCheckAt])
      (by simp [State.endCheckAs, State.failCheckAt])

theorem slotsSound.portsOnly (sound : s.slotsSound) (only : s.PortsOnly t) : t.slotsSound :=
  sound.of_matcher (by rw [only.only]) (by rw [only.only]) (by rw [only.only])

/-- After either reset no job stands and nothing is reserved (R26). -/
theorem slotsSound_restart (s : State) : s.restart.slotsSound :=
  ⟨Nat.zero_le 8, ⟨rfl, rfl⟩, Nat.zero_le 1, fun _ => rfl⟩

theorem slotsSound_powerUp (s : State) (dram : DramStrap) (node : Octet) : (s.powerUp dram node).slotsSound :=
  ⟨Nat.zero_le 8, ⟨rfl, rfl⟩, Nat.zero_le 1, fun _ => rfl⟩

end State

theorem RequestDone.slotsSound {s t : State} {q : Request} (done : RequestDone s q t) (sound : s.slotsSound) :
    t.slotsSound := by
  have answered : ∀ u : State, u.slotsSound → ∀ x d, (u.answer q x d).slotsSound := fun u sound x d =>
    sound.of_matcher rfl rfl rfl
  cases done with
  | timeSet =>
    have set : State.slotsSound { s with clock := s.clock.setTime (BitVec.ofNat 32 (fieldAt q.args 0 4)) } := sound
    exact answered _ (set.timeTrigger _) _ _
  | derivedRead => exact answered _ (sound.of_matcher (by simp) (by simp) (by simp)) _ _
  | scheduled =>
    unfold State.schedule
    exact answered _ (sound.of_matcher (by simp) (by simp) (by simp)) _ _
  | banksRead => exact answered _ (sound.of_matcher (by simp) (by simp) (by simp)) _ _
  | sweepStarted =>
    exact answered _ (sound.of_matcher (by simp [State.beginBurst]) (by simp [State.beginBurst])
      (by simp [State.beginBurst])) _ _
  | sweepStopped x =>
    have stopped : (s.setSweep x).slotsSound := sound
    exact answered _ stopped.returnSweeperSlot _ _
  | _ => exact sound.of_same rfl rfl rfl

theorem Moves.slotsSound {s t : State} {c : Instr} (m : Moves s c t) (sound : s.slotsSound) : t.slotsSound := by
  cases m with
  | stay => exact sound
  | powerUp dram node => exact s.slotsSound_powerUp dram node
  | reset => exact s.slotsSound_restart
  | secondBoundary => exact sound.secondBoundary
  | millisecondTick => exact sound.of_matcher (by simp) (by simp) (by simp)
  | pauseRunsOut =>
    exact sound.of_matcher (by simp [State.beginBurst]) (by simp [State.beginBurst]) (by simp [State.beginBurst])
  | routed port f => exact sound.portsOnly (s.portsOnly_routeFrame port f)
  | notWellFormed port => cases port <;> exact sound
  | overlength port => cases port <;> exact sound
  | pauseAsserted port => cases port <;> exact sound
  | pauseReleased port => cases port <;> exact sound
  | frameBegin port => cases port <;> exact sound
  | stationFrameEnd => exact sound.portsOnly s.portsOnly_endStationFrame
  | officeFrameEnd =>
    rcases s.portsOnly_endOfficeFrame with only | ⟨i, taken⟩
    · exact sound.portsOnly only
    · exact taken ▸ (s.endReply i).slotsSound_restart
  | @tapFrameTaken f _ slot =>
    obtain ⟨p, m, r, h, -⟩ := s.tapFrameTaken_only f slot
    exact sound.of_same (by rw [h]) (by rw [h]) (by rw [h])
  | rejudged work => exact (sound.unasked (.inr ⟨_, work⟩)).judgeRecord _ _
  | @recordBegun f _ rest work =>
    have begun : (s.beginRecord f rest).SlotsUnasked := (sound.unasked (.inl work)).of_same rfl rfl
    exact begun.testRecord _
  | slotTaken work granted => exact sound.takeSlot work granted
  | tapHoldGranted work => exact sound.handleHold work _ _
  | assistTaken work => exact sound.takeAssist work _ _ _ _
  | jobTaken _ queued => exact sound.takeJob queued rfl
  | computed => exact sound.of_same rfl rfl rfl
  | displacedSettled =>
    exact ((sound.report _ _ _ _).releaseRef _).of_same rfl rfl rfl
  | holdAsked => exact sound.of_same (by simp [State.setFau]) (by simp [State.setFau]) (by simp [State.setFau])
  | writeBack => exact sound.writeBack _ _ _ _
  | examined => exact sound.examineBucket _ _
  | sweeperSlotTaken => exact sound.takeSweeperSlot.of_matcher (by simp) (by simp) (by simp)
  | @powerUpPass b =>
    have emptied : State.slotsSound { s.emptyBucket b with dramWritten := b + 1 } := sound
    exact emptied.nextPassBucket b
  | restartPass => exact sound.restartPassBucket _
  | passSlotTaken => exact sound.takeSweeperSlot.of_matcher (by simp) (by simp) (by simp)
  | clearCompleted =>
    exact sound.of_matcher (by simp [State.completeClear]) (by simp [State.completeClear]) (by simp [State.completeClear])
  | checkEnded => exact sound.endCheck _
  | @tokenRead token entry =>
    unfold State.readRecord
    split
    · exact sound.of_matcher (by simp) (by simp) (by simp)
    · exact sound.of_matcher (by simp) (by simp) (by simp)
  | @request _ _ entry f q row _ => exact (row.done (s.reserve entry f) q).slotsSound sound

/-- Settles O7: each command by the slots it fills, asks for and returns. -/
theorem jobSlotsNeverOverflow : Obligations.JobSlotsNeverOverflow :=
  step_keeps (I := State.slotsSound) (fun _ _ sound => sound)
    (fun s sound => State.referencePeriod_induct (P := State.slotsSound) (fun _ => sound)
      sound.secondBoundary (fun _ _ within => within)
      fun _ within => within.of_matcher (by simp) (by simp) (by simp))
    fun _ _ _ sound moves => moves.slotsSound sound

end Sys2Proof.Machine
end


section
/-!
The bank states and the record in work (R1, R29, R88, R93, R140, R146, R155, R156): what each command makes of each bank's
state and of the clear in flight, and from which handling the one in work afterwards comes.
-/
namespace Sys2Proof.Machine

open Sys2Proof

/-- Lookups may read a bank in this state: ACTIVE or RETIRING (R1). -/
def BankState.inUse (x : BankState) : Prop := x = .active ∨ x = .retiring

/-- A change of a bank's state that is no activation and no schedule: ACTIVE stands, a STAGING bank stays so, no bank comes
into use or onto the schedule. -/
structure BankState.Settles (x y : BankState) : Prop where
  active : y = .active ↔ x = .active
  staging : x = .staging → y = .staging
  inUse : y.inUse → x.inUse
  onSchedule : y = .scheduled ∨ y = .checking → x = .scheduled ∨ x = .checking

theorem BankState.Settles.refl (x : BankState) : x.Settles x := ⟨.rfl, id, id, id⟩

theorem BankState.Settles.of_eq {x y : BankState} (same : y = x) : x.Settles y := same ▸ .refl x

theorem Bank.Kept.settles {k l : Bank} (kept : k.Kept l) : k.state.Settles l.state := by
  rcases kept.state with same | ⟨before, after⟩ | ⟨before, after⟩
  · exact .of_eq same
  · rw [before, after]
    exact ⟨by simp, by simp, by simp [BankState.inUse], by simp⟩
  · rw [before, after]
    exact ⟨by simp, by simp, by simp [BankState.inUse], by simp⟩

theorem Bank.settles_reset (k : Bank) : k.state.Settles k.reset.state := by
  show k.state.Settles (if k.state = .checking then .scheduled else k.state)
  split_ifs with checking
  · rw [checking]
    exact ⟨by simp, by simp, by simp [BankState.inUse], by simp⟩
  · exact .refl _

theorem BankState.Settles.trans {x y z : BankState} (h : x.Settles y) (k : y.Settles z) : x.Settles z :=
  ⟨k.active.trans h.active, k.staging ∘ h.staging, h.inUse ∘ k.inUse, h.onSchedule ∘ k.onSchedule⟩

theorem Bank.settles_powerUp (k : Bank) : k.state.Settles k.powerUp.state := by
  unfold Bank.powerUp
  split_ifs with retiring
  · rw [retiring]
    exact ⟨by simp, by simp, by simp [BankState.inUse], by simp⟩
  · exact .refl _

/-- What a command but the pass of a check makes of the banks' states and of the clear in flight: the states settle and a
clear in flight stays in its bank or begins in a STAGING one; or a bank is scheduled. -/
inductive State.BanksOutcome (s t : State) : Prop
  | settled (states : ∀ b, (s.bank b).state.Settles (t.bank b).state)
      (clear : ∀ c, t.store.clear = some c → (s.bank c.bank).state = .staging ∨
        ∃ d, s.store.clear = some d ∧ d.bank = c.bank)
  | scheduled (b : BankId) (staging : (s.bank b).state = .staging)
      (free : (s.bank b.other).state ≠ .scheduled ∧ (s.bank b.other).state ≠ .checking)
      (unclaimed : ∀ c, s.store.clear = some c → c.bank ≠ b)
      (state : (t.bank b).state = .scheduled ∨ (t.bank b).state = .checking)
      (other : (t.bank b.other).state = (s.bank b.other).state) (clear : t.store.clear = s.store.clear)

/-! ### Soundness by the states -/

theorem State.banksSound_iff (s : State) : s.banksSound ↔
    (∀ b, ¬((s.bank b).state = .active ∧ (s.bank b.other).state = .active)) ∧
      (∀ b, ((s.bank b).state = .scheduled ∨ (s.bank b).state = .checking) →
        ¬((s.bank b.other).state = .scheduled ∨ (s.bank b.other).state = .checking)) ∧
      ∀ c, s.store.clear = some c → (s.bank c.bank).state = .staging := by
  unfold State.banksSound
  rw [Bank.onSchedule_iff, Bank.onSchedule_iff]
  constructor
  · rintro ⟨active, schedule, clear⟩
    refine ⟨fun b => ?_, fun b => ?_, clear⟩
    · cases b
      · exact active
      · exact fun both => active both.symm
    · cases b
      · exact fun this that => schedule ⟨this, that⟩
      · exact fun this that => schedule ⟨that, this⟩
  · rintro ⟨active, schedule, clear⟩
    exact ⟨active .A, fun both => schedule .A both.1 both.2, clear⟩

theorem State.state_activeBank {s : State} {b : BankId} (found : s.activeBank = some b) : (s.bank b).state = .active := by
  unfold State.activeBank at found
  split_ifs at found with a c
  · obtain rfl := Option.some.inj found
    exact a
  · obtain rfl := Option.some.inj found
    exact c

theorem State.activeBank_isSome_iff (s : State) : s.activeBank.isSome = true ↔ ∃ b, (s.bank b).state = .active := by
  constructor
  · intro some
    obtain ⟨b, found⟩ := Option.isSome_iff_exists.1 some
    exact ⟨b, State.state_activeBank found⟩
  · rintro ⟨b, active⟩
    unfold State.activeBank
    cases b with
    | A =>
      have active : s.store.bankA.state = .active := active
      simp [active]
    | B =>
      have active : s.store.bankB.state = .active := active
      split_ifs <;> rfl

theorem BankId.other_other (b : BankId) : b.other.other = b := by cases b <;> rfl

/-- A bank replaced is no longer ACTIVE, comes onto no schedule, and stays STAGING where it was. -/
theorem Bank.replaced_state (k : Bank) : k.replaced.state ≠ .active ∧
    (k.replaced.state = .scheduled ∨ k.replaced.state = .checking → k.state = .scheduled ∨ k.state = .checking) ∧
    (k.state = .staging → k.replaced.state = .staging) ∧ (k.replaced.state.inUse → k.state.inUse) := by
  by_cases active : k.state = .active
  · have after : k.replaced.state = .retiring ∨ k.replaced.state = .staging := by
      rw [Bank.replaced, if_pos active]
      exact (ite_eq_or_eq _ _ _).imp id id
    refine ⟨?_, ?_, by simp [active], fun _ => .inl active⟩ <;> rcases after with after | after <;> simp [after]
  · rw [Bank.replaced, if_neg active]
    exact ⟨active, id, id, id⟩

/-- Any bank is one of the two. -/
theorem BankId.eq_or_eq_other (b k : BankId) : k = b ∨ k = b.other := by
  cases b <;> cases k <;> simp [BankId.other]

namespace State.BanksOutcome

variable {s t : State}

theorem banksSound (out : s.BanksOutcome t) (sound : s.banksSound) : t.banksSound := by
  obtain ⟨active, schedule, clear⟩ := s.banksSound_iff.1 sound
  rw [State.banksSound_iff]
  cases out with
  | settled states clear' =>
    refine ⟨fun b both => active b ⟨(states b).active.1 both.1, (states b.other).active.1 both.2⟩, fun b on on' =>
      schedule b ((states b).onSchedule on) ((states b.other).onSchedule on'), fun c inFlight => (states c.bank).staging ?_⟩
    rcases clear' c inFlight with staging | ⟨d, found, same⟩
    · exact staging
    · exact same ▸ clear d found
  | scheduled b staging free unclaimed state other clear' =>
    have notActive : (t.bank b).state ≠ .active := by rcases state with h | h <;> simp [h]
    refine ⟨fun k => ?_, fun k => ?_, fun c inFlight => ?_⟩
    · rcases BankId.eq_or_eq_other b k with rfl | rfl
      · exact fun both => notActive both.1
      · rw [BankId.other_other]
        exact fun both => notActive both.2
    · rcases BankId.eq_or_eq_other b k with rfl | rfl
      · rw [other]
        exact fun _ on => on.elim free.1 free.2
      · rw [other]
        exact fun on => absurd on (not_or.2 free)
    · rw [clear'] at inFlight
      rcases BankId.eq_or_eq_other b c.bank with same | same
      · exact absurd same (unclaimed c inFlight)
      · rw [same, other, ← same]
        exact clear c inFlight
/-- Where a bank is ACTIVE, one stays so. -/
theorem activeBank (out : s.BanksOutcome t) (active : s.activeBank.isSome = true) : t.activeBank.isSome = true := by
  rw [State.activeBank_isSome_iff] at active ⊢
  obtain ⟨k, active⟩ := active
  cases out with
  | settled states => exact ⟨k, (states k).active.2 active⟩
  | scheduled b staging _ _ _ other =>
    rcases BankId.eq_or_eq_other b k with rfl | rfl
    · rw [staging] at active
      simp at active
    · exact ⟨_, other.trans active⟩

end State.BanksOutcome

/-! ### The pass of a check (R150) -/

section Pass

variable {s : State} {b : BankId}

theorem State.state_passCheck (s : State) (b : BankId) : ((s.passCheck b).bank b).state = .active := by
  rw [State.bank_passCheck]
  rfl

theorem State.clear_passCheck (s : State) (b : BankId) : (s.passCheck b).store.clear = s.store.clear := by
  rw [State.passCheck_eq]
  cases b <;> rfl

theorem State.banksSound_passCheck (sound : s.banksSound) (checking : (s.bank b).state = .checking) :
    (s.passCheck b).banksSound := by
  obtain ⟨-, schedule, clear⟩ := s.banksSound_iff.1 sound
  obtain ⟨notActive, onSchedule, staging, -⟩ := (s.bank b.other).replaced_state
  have other := s.bank_passCheck_other b
  rw [← other] at notActive onSchedule staging
  have free : ¬(((s.passCheck b).bank b.other).state = .scheduled ∨ ((s.passCheck b).bank b.other).state = .checking) :=
    fun on => schedule b (.inr checking) (onSchedule on)
  refine (s.passCheck b).banksSound_iff.2 ⟨fun k => ?_, fun k => ?_, fun c inFlight => ?_⟩
  · rcases BankId.eq_or_eq_other b k with rfl | rfl
    · exact fun both => notActive both.2
    · exact fun both => notActive both.1
  · rcases BankId.eq_or_eq_other b k with rfl | rfl
    · exact fun _ => free
    · exact fun on => absurd on free
  · have cleared := clear c (s.clear_passCheck b ▸ inFlight)
    rcases BankId.eq_or_eq_other b c.bank with same | same
    · rw [same, checking] at cleared
      simp at cleared
    · rw [same] at cleared ⊢
      exact staging cleared

/-- A record judged under the bank before does not stand under it (log 31); the other bank keeps its words. -/
theorem State.judgedInForce_passCheck (inForce : s.judgedInForce) (b : BankId) : (s.passCheck b).judgedInForce := by
  intro h judged inUse
  have work : (s.passCheck b).matcher.work = s.matcher.work.withHandling fun g => g.afterPass b := by
    rw [State.passCheck_eq]
  rw [work, MatcherWork.judged?_withHandling] at judged
  obtain ⟨g, before, rfl⟩ := Option.map_eq_some_iff.1 judged
  obtain ⟨stands, used⟩ := inUse
  by_cases under : g.judging = b
  · simp [Handling.afterPass, under] at stands
  · rw [Handling.afterPass, if_neg under] at stands used ⊢
    have other : g.judging = b.other := (BankId.eq_or_eq_other b _).resolve_left under
    have words : (s.passCheck b).words b.other = s.words b.other := by
      rw [State.words, State.bank_passCheck_other, Bank.replaced]
      split_ifs <;> rfl
    rw [other] at used ⊢
    rw [words]
    rw [State.bank_passCheck_other] at used
    have wasUsed := (s.bank b.other).replaced_state.2.2.2 used
    exact other ▸ inForce g before ⟨stands, other.symm ▸ wasUsed⟩

end Pass

/-! ### The outcome of each command -/

namespace State.BanksOutcome

variable {s t : State}

theorem of_states (states : ∀ b, (t.bank b).state = (s.bank b).state) (clear : t.store.clear = s.store.clear) :
    s.BanksOutcome t :=
  .settled (fun b => .of_eq (states b)) fun c inFlight => .inr ⟨c, clear ▸ inFlight, rfl⟩

theorem of_store (store : t.store = s.store) : s.BanksOutcome t :=
  of_states (fun b => by rw [State.bank, store, State.bank]) (by rw [store])

theorem of_kept (kept : ∀ b, (s.bank b).Kept (t.bank b)) (clear : t.store.clear = s.store.clear) : s.BanksOutcome t :=
  .settled (fun b => (kept b).settles) fun c inFlight => .inr ⟨c, clear ▸ inFlight, rfl⟩

theorem worked {sc : Scope} (work : s.Worked sc t) : s.BanksOutcome t := of_kept work.bank work.clear

/-- A bank's state set to one that it settles to. -/
theorem setBank {b : BankId} {v : Bank} (settles : (s.bank b).state.Settles v.state) : s.BanksOutcome (s.setBank b v) := by
  obtain ⟨-, -, clear⟩ := s.store.setBank_pointer b v
  refine .settled (fun k => ?_) fun c inFlight => .inr ⟨c, clear ▸ inFlight, rfl⟩
  by_cases same : k = b
  · subst same
    rw [State.bank_setBank_self]
    exact settles
  · rw [State.bank_setBank_ne _ _ same]
    exact .refl _

/-- The outcome of a change before which, or after which, other things than the store changed. -/
theorem of_stores {u v : State} (out : s.BanksOutcome t) (before : u.store = s.store) (after : v.store = t.store) : u.BanksOutcome v := by
  have old : ∀ b, u.bank b = s.bank b := fun b => by rw [State.bank, before, State.bank]
  have new : ∀ b, v.bank b = t.bank b := fun b => by rw [State.bank, after, State.bank]
  cases out with
  | settled states clear =>
    exact .settled (fun b => by rw [old, new]; exact states b) fun c inFlight => by
      rw [old, before]
      exact clear c (after ▸ inFlight)
  | scheduled b staging free unclaimed state other clear =>
    exact .scheduled b (old b ▸ staging) (by rw [old]; exact free) (before ▸ unclaimed) (new b ▸ state)
      (by rw [old, new]; exact other) (by rw [after, before, clear])
theorem advanceClear (s : State) : s.BanksOutcome s.advanceClear := by
  refine .settled (fun b => ?_) fun c inFlight => ?_
  · unfold State.advanceClear
    split
    · next c _ => exact .of_eq (by cases c.bank <;> cases b <;> rfl)
    · exact .refl _
  · obtain ⟨d, e, found, advanced, same⟩ := s.clear_advanceClear ⟨c, inFlight⟩
    obtain rfl := Option.some.inj (advanced.symm.trans inFlight)
    exact .inr ⟨d, found, same.symm⟩

theorem advanceCheck (s : State) (b : BankId) : s.BanksOutcome (s.advanceCheck b) :=
  of_states (s.states_advanceCheck b) (s.clear_advanceCheck b)

theorem restart (s : State) : s.BanksOutcome s.restart := by
  refine .settled (fun b => ?_) fun c inFlight => absurd (s.clear_stopStore.symm.trans inFlight) (by simp)
  rw [State.bank_restart, ← (s.bankStopped_stopStore b).state]
  exact Bank.settles_reset _

theorem powerUp (s : State) (dram : DramStrap) (node : Octet) : s.BanksOutcome (s.powerUp dram node) := by
  refine .settled (fun b => ?_) fun c inFlight => absurd (s.clear_stopStore.symm.trans inFlight) (by simp)
  rw [State.bank_powerUp, ← (s.bankStopped_stopStore b).state]
  exact (Bank.settles_reset _).trans (Bank.settles_powerUp _)

theorem secondBoundary (s : State) : s.BanksOutcome s.secondBoundary := by
  have trigger := (State.Worked.refl {} ({ s with clock := s.clock.nextSecond } : State)).timeTrigger
    s.clock.nextSecond.lineSeconds
  rw [State.secondBoundary_eq]
  exact (worked trigger).of_stores rfl rfl

/-- A bank scheduled by the tests of R147 was STAGING, the other is not on the schedule, and no clear of it is in
flight; its check may begin at once. -/
theorem schedule {b : BankId} (taken : s.scheduleRefusal b = none) (a : LineTime) : s.BanksOutcome (s.schedule b a) := by
  unfold State.scheduleRefusal at taken
  split_ifs at taken with active retiring on otherOn claimed
  rw [Bank.onSchedule_iff, not_or] at on otherOn
  have staging : (s.bank b).state = .staging := by
    cases state : (s.bank b).state <;> simp_all
  obtain ⟨u, put⟩ : ∃ u, u = s.setBank b { s.bank b with state := .scheduled, activation := some a, checkCode := 0 } :=
    ⟨_, rfl⟩
  have tested := (State.Worked.refl {} u).testSchedule s.clock.lineSeconds
  have this : (u.bank b).state = .scheduled := by rw [put, State.bank_setBank_self]
  have that : u.bank b.other = s.bank b.other := by rw [put, State.bank_setBank_other]
  have clear : u.store.clear = s.store.clear := put ▸ (s.store.setBank_pointer b _).2.2
  have after : s.schedule b a = u.testSchedule s.clock.lineSeconds := by rw [put]; rfl
  rw [after]
  refine .scheduled b staging otherOn (fun c inFlight same => claimed ?_) ?_ ?_ (tested.clear.trans clear)
  · simp [TableStore.clearingBank, inFlight, same]
  · rcases (tested.bank b).state with same | ⟨before, -⟩ | ⟨-, checking⟩
    · exact .inl (same.trans this)
    · rw [this] at before
      simp at before
    · exact .inr checking
  · rw [State.bank_testSchedule]
    split_ifs
    · rw [that, Bank.testSchedule_notDue (.inl otherOn.1)]
    · rw [that]

/-- A check that fails leaves its bank STAGING (R151). -/
theorem failCheckAt {b : BankId} (checking : (s.bank b).state = .checking) (code : Nat) :
    s.BanksOutcome (s.failCheckAt b code) := by
  have failed : s.BanksOutcome (s.setBank b ((s.bank b).failed code)) := setBank (by
    rw [checking]
    exact ⟨by simp [Bank.failed], by simp, by simp [Bank.failed, BankState.inUse], by simp⟩)
  exact failed.of_stores rfl rfl

/-- No bank comes into use but by the pass of a check. -/
theorem inUse (out : s.BanksOutcome t) (k : BankId) (used : (t.bank k).state.inUse) : (s.bank k).state.inUse := by
  cases out with
  | settled states => exact (states k).inUse used
  | scheduled b _ _ _ state other =>
    rcases BankId.eq_or_eq_other b k with rfl | rfl
    · rcases state with h | h <;> simp [h, BankState.inUse] at used
    · exact other ▸ used

end State.BanksOutcome

theorem State.state_scheduledBank {s : State} {b : BankId} (found : s.scheduledBank = some b) :
    (s.bank b).state = .scheduled := by
  unfold State.scheduledBank at found
  split_ifs at found with a c
  · obtain rfl := Option.some.inj found
    exact a
  · obtain rfl := Option.some.inj found
    exact c

theorem RequestDone.banksOutcome {s t : State} {q : Request} (done : RequestDone s q t) : s.BanksOutcome t := by
  cases done with
  | timeSet =>
    have trigger := (State.Worked.refl {} ({ s with
      clock := s.clock.setTime (BitVec.ofNat 32 (fieldAt q.args 0 4)) } : State)).timeTrigger
        (BitVec.ofNat 32 (fieldAt q.args 0 4))
    exact (State.BanksOutcome.worked trigger).of_stores rfl rfl
  | @clearTaken b segment _ staging =>
    exact .settled (fun b => .refl _) fun c inFlight => by
      obtain rfl := Option.some.inj inFlight
      exact .inl staging
  | @unitPut b o ws =>
    exact .of_states (fun k => by cases b <;> cases k <;> rfl) (by cases b <;> rfl)
  | pointerSet => exact .of_states (fun b => by cases b <;> rfl) rfl
  | derivedRead b => exact (State.BanksOutcome.advanceCheck s b).of_stores rfl rfl
  | scheduled a _ taken => exact (State.BanksOutcome.schedule taken a).of_stores rfl rfl
  | @unscheduled b _ found =>
    refine (State.BanksOutcome.setBank (s := s) (b := b) (v := { s.bank b with state := .staging, activation := none })
      ?_).of_stores rfl rfl
    rw [State.state_scheduledBank found]
    exact ⟨by simp, by simp, by simp [BankState.inUse], by simp⟩
  | banksRead => exact (State.BanksOutcome.advanceClear s).of_stores rfl rfl
  | sweepStarted => exact .of_store (by simp [State.answer, State.beginBurst])
  | sweepStopped => exact .of_store (by simp [State.answer, State.setSweep])
  | _ => exact .of_store rfl

theorem Effects.banksOutcome {s t : State} {c : Instr} (e : Effects s c t) :
    s.BanksOutcome t ∨ ∃ b, (s.bank b).state = .checking ∧ t = s.passCheck b := by
  cases e with
  | worked work => exact .inl <| .worked work
  | powerUp dram node => exact .inl <| .powerUp s dram node
  | reset => exact .inl <| .restart s
  | secondBoundary => exact .inl <| .secondBoundary s
  | millisecondTick => exact .inl <| .of_store (by simp)
  | routed port f => exact .inl <| .of_store (by rw [(s.portsOnly_routeFrame port f).only])
  | stationFrameEnd => exact .inl <| .of_store (by rw [s.portsOnly_endStationFrame.only])
  | officeFrameEnd =>
    rcases s.portsOnly_endOfficeFrame with h | ⟨i, h⟩
    · exact .inl <| .of_store (by rw [h.only])
    · rw [h]
      exact .inl <| (State.BanksOutcome.restart (s.endReply i)).of_stores rfl rfl
  | @tapFrameTaken f _ slot _ =>
    obtain ⟨p, m, r, h, -⟩ := s.tapFrameTaken_only f slot
    exact .inl <| .of_store (by rw [h])
  | @clearCompleted c _ =>
    refine .inl <| .settled (fun b => .of_eq ?_) fun d none => by simp [State.completeClear, State.fillReply] at none
    unfold State.completeClear
    cases c.bank <;> cases b <;> rfl
  | @checkEnded b checking =>
    have checks := State.checkingBank_some checking
    cases failure : checkFailure (s.words b) with
    | none => exact .inr ⟨b, checks, State.endCheck_pass failure⟩
    | some code =>
      unfold State.endCheck
      rw [failure]
      exact .inl (.failCheckAt checks code)
  | @request _ _ entry f q row _ => exact .inl <| (row.done (s.reserve entry f) q).banksOutcome.of_stores rfl rfl

/-! ### The record in work (R29, R88, R93) -/

/-- The record or request in work in `t` was in work in `s` already, or has just been judged under the ACTIVE bank, with
its station in force there. -/
def State.JudgedFrom (s t : State) : Prop :=
  ∀ h, t.matcher.work.judged? = some h → s.matcher.work.judged? = some h ∨
    ((s.bank h.judging).state = .active ∧ h.tap.station.toNat < stationCount (s.words h.judging))

namespace State.JudgedFrom

variable {s t u : State}

theorem of_work (work : t.matcher.work = s.matcher.work) : s.JudgedFrom t := fun _ judged => .inl (work ▸ judged)

theorem of_matcher (matcher : t.matcher = s.matcher) : s.JudgedFrom t := of_work (by rw [matcher])

theorem of_none (work : t.matcher.work.judged? = none) : s.JudgedFrom t := fun h judged => by simp [work] at judged

/-- The same record in work in another work state. -/
theorem of_same (work : t.matcher.work.judged? = s.matcher.work.judged?) : s.JudgedFrom t :=
  fun _ judged => .inl (work ▸ judged)

theorem judges {h : Handling} (work : t.matcher.work.judged? = some h) (active : (s.bank h.judging).state = .active)
    (inForce : h.tap.station.toNat < stationCount (s.words h.judging)) : s.JudgedFrom t := fun g judged => by
  obtain rfl := Option.some.inj (work.symm.trans judged)
  exact .inr ⟨active, inForce⟩

end State.JudgedFrom

namespace State

variable {s t : State}

theorem work_endWork (s : State) (h : Handling) : (s.endWork h).matcher.work = .none := by
  unfold State.endWork
  dsimp only
  split <;> simp [State.setWork]

theorem judgedFrom_endWork (s t : State) (h : Handling) : s.JudgedFrom (t.endWork h) :=
  .of_none (by rw [work_endWork]; rfl)

theorem judgedFrom_judgeRecord {b : BankId} (active : s.activeBank = some b) (h : Handling) :
    s.JudgedFrom (s.judgeRecord h b) := by
  by_cases unknown : stationCount (s.words b) ≤ h.tap.station.toNat
  · rw [State.judgeRecord_unknown unknown]
    exact judgedFrom_endWork _ _ _
  · have known := Nat.not_le.1 unknown
    cases onList : denied (s.words b) h.tap.token with
    | true =>
      rw [State.judgeRecord_denied known onList]
      exact judgedFrom_endWork _ _ _
    | false =>
      obtain ⟨-, tap, judging, -⟩ :=
        timeTest_kept (s.words b) s.clock.lineSeconds { h with judging := b, lapsed := false }
      have state : (s.bank b).state = .active := State.state_activeBank active
      rw [State.judgeRecord_admitted known onList, State.admitRecord]
      split_ifs
      · refine .judges (h := timeTest (s.words b) s.clock.lineSeconds { h with judging := b, lapsed := false }) ?_ ?_ ?_
        · simp [State.seekSlot, State.setWork, MatcherWork.judged?]
        · rw [judging]
          exact state
        · rw [judging, tap]
          exact known
      · refine .judges (h := timeTest (s.words b) s.clock.lineSeconds { h with judging := b, lapsed := false }) ?_ ?_ ?_
        · simp [State.seekHold, State.setWork, MatcherWork.judged?]
        · rw [judging]
          exact state
        · rw [judging, tap]
          exact known

theorem activeBank_judgingBank {b : BankId} (judges : s.judgingBank = some b) : s.activeBank = some b := by
  unfold State.judgingBank at judges
  split_ifs at judges
  exact judges

theorem judgedFrom_testRecord (s : State) (h : Handling) : s.JudgedFrom (s.testRecord h) := by
  unfold State.testRecord
  split
  · exact judgedFrom_endWork _ _ _
  · next judges =>
    split_ifs
    · exact judgedFrom_endWork _ _ _
    · exact judgedFrom_judgeRecord (activeBank_judgingBank judges) h

theorem judgedFrom_takeSlot {h : Handling} (work : s.matcher.work = .waitReservation h ∨ s.matcher.work = .waitSecond h) :
    s.JudgedFrom (s.takeSlot h) := by
  refine .of_same ?_
  have after : (s.takeSlot h).matcher.work = .waitHold h := by simp [State.takeSlot, State.seekHold, State.setWork]
  rcases work with work | work <;> rw [after, work] <;> rfl

theorem judgedFrom_takeAssist (s : State) (k : Token) (station gate : Octet) (i : Nat) :
    s.JudgedFrom (s.takeAssist k station gate i) := by
  unfold State.takeAssist
  split
  · exact .of_matcher rfl
  · next b judges =>
    split_ifs with refused
    · exact .of_matcher rfl
    · obtain ⟨-, known⟩ := not_or.1 refused
      refine .judges (h := assistHandling k station gate i b s.clock.lineSeconds) ?_
        (State.state_activeBank (activeBank_judgingBank judges)) (Nat.not_le.1 known)
      simp [State.seekSlot, State.setWork, MatcherWork.judged?]

theorem judgedFrom_handleHold {h : Handling} (work : s.matcher.work = .waitHold h) (b : Nat) (now : LineTime) :
    s.JudgedFrom (s.handleHold b h now) := by
  have before : s.matcher.work.judged? = some h := by rw [work]; rfl
  have ends := State.HoldEnds.handleHold s b h now
  generalize s.handleHold b h now = u at ends ⊢
  cases ends with
  | @waits w same =>
    rw [State.waitAfterHold_eq]
    rcases same with rfl | rfl | rfl
    · exact .of_same before.symm
    · exact .of_same before.symm
    · exact .of_none rfl
  | asks _ =>
    rw [State.waitAfterHold_eq]
    exact .of_same (by simpa [MatcherWork.judged?] using before.symm)
  | ends _ _ => exact judgedFrom_endWork _ _ _

theorem judged_notice (s : State) (b : Nat) (k : Token) :
    (s.notice b k).matcher.work.judged? = s.matcher.work.judged? := by
  unfold State.notice
  split
  · next work =>
    split_ifs
    · simp [work, MatcherWork.judged?]
    · rfl
  · next work =>
    split_ifs
    · simp [work, MatcherWork.judged?]
    · rfl
  · rfl

theorem matcher_report (s : State) (job : Job) (r : FareResult) (c : Charge) (channels : BitVec 4) :
    (s.report job r c channels).matcher = s.matcher := by
  unfold State.report State.answerJob
  dsimp only
  split
  · rfl
  · simp [State.appendSettlement]
  · rfl

theorem matcher_settleParts (s : State) (b w : Nat) (job : Job) (old : TokenRecord) (c : Charge) (now : LineTime) :
    (s.settleParts b w job old c now).matcher = s.matcher := by
  unfold State.settleParts
  split
  · split_ifs <;> simp
  · simp

theorem judged_releaseFau (s : State) (b : Nat) (job : Job) (removed : Bool) :
    (s.releaseFau b job removed).matcher.work.judged? = s.matcher.work.judged? := by
  unfold State.releaseFau
  dsimp only
  split_ifs
  · simpa [State.setFau] using s.judged_notice b job.token
  · simp [State.setFau]

theorem judgedFrom_writeBack (s : State) (b : Nat) (job : Job) (r : FareResult) (read : Reading) :
    s.JudgedFrom (s.writeBack b job r read) := by
  refine .of_same ?_
  unfold State.writeBack
  split
  · rw [judged_releaseFau, State.writeBackTracked, matcher_report, matcher_settleParts]
  · rw [judged_releaseFau, State.writeBackUntracked, matcher_report]

end State

/-! ### The Sweeper, the clock and the requests leave the record in work -/

section Leaves

variable {s t : State}

theorem State.matcher_examineBucket (s : State) (b : Nat) (now : LineTime) : (s.examineBucket b now).matcher = s.matcher := by
  have stand := State.holdsStand_examineWays b now (List.range Config.ways) s
  unfold State.examineBucket
  split
  · next u hu =>
    rw [hu] at stand
    rw [← stand.matcher]
    unfold State.blocked
    dsimp only
    split_ifs <;> simp
  · next u hu =>
    rw [hu] at stand
    rw [← stand.matcher, State.fullyExamined_eq]

theorem State.work_nextPassBucket (s : State) (b : Nat) : (s.nextPassBucket b).matcher.work = s.matcher.work := by
  unfold State.nextPassBucket
  dsimp only
  split_ifs
  · simp
  · simp [State.endStartPass]

theorem State.work_restartPassBucket (s : State) (b : Nat) : (s.restartPassBucket b).matcher.work = s.matcher.work := by
  have stand := (s.holdsStand_fillUndefined b).trans
    (State.holdsStand_passWays b (waysFrom (s.fillUndefined b).sweeper.passWay) (s.fillUndefined b))
  unfold State.restartPassBucket
  dsimp only
  split
  · next hu =>
    rw [hu] at stand
    rw [← stand.matcher]
    simp
  · next hu =>
    rw [hu] at stand
    rw [State.work_nextPassBucket, stand.matcher]

theorem State.work_timeTrigger (s : State) (now : LineTime) : (s.timeTrigger now).matcher.work = s.matcher.work := by
  rw [State.matcher_timeTrigger]
  split_ifs <;> rfl

theorem State.work_secondBoundary (s : State) : s.secondBoundary.matcher.work = s.matcher.work := by
  rw [State.secondBoundary_eq]
  exact State.work_timeTrigger _ _

theorem RequestDone.work {q : Request} (done : RequestDone s q t) : t.matcher.work = s.matcher.work := by
  cases done with
  | timeSet => exact State.work_timeTrigger _ _
  | derivedRead => simp [State.answer]
  | scheduled => simp [State.answer, State.schedule]
  | banksRead => simp [State.answer]
  | sweepStarted => simp [State.answer, State.beginBurst]
  | sweepStopped => simp [State.answer, State.setSweep]
  | _ => rfl

/-- Where the record in work after a command comes from, but for the pass of a check. -/
theorem Moves.judgedFrom {c : Instr} (m : Moves s c t) : s.JudgedFrom t ∨ ∃ b, t = s.passCheck b := by
  have ports : ∀ {u}, s.PortsOnly u → s.JudgedFrom u ∨ ∃ b, u = s.passCheck b := fun only =>
    .inl (.of_matcher (by rw [only.only]))
  cases m with
  | stay => exact .inl (.of_matcher rfl)
  | powerUp => exact .inl (.of_none rfl)
  | reset => exact .inl (.of_none rfl)
  | secondBoundary => exact .inl (.of_work s.work_secondBoundary)
  | millisecondTick => exact .inl (.of_matcher (by simp))
  | pauseRunsOut => exact .inl (.of_matcher (by simp [State.beginBurst]))
  | routed port f => exact ports (s.portsOnly_routeFrame port f)
  | notWellFormed port => exact .inl (.of_matcher (by cases port <;> rfl))
  | overlength port => exact .inl (.of_matcher (by cases port <;> rfl))
  | pauseAsserted port => exact .inl (.of_matcher (by cases port <;> rfl))
  | pauseReleased port => exact .inl (.of_matcher (by cases port <;> rfl))
  | frameBegin port => exact .inl (.of_matcher (by cases port <;> rfl))
  | stationFrameEnd => exact ports s.portsOnly_endStationFrame
  | officeFrameEnd =>
    rcases s.portsOnly_endOfficeFrame with only | ⟨i, taken⟩
    · exact ports only
    · exact .inl (.of_none (by rw [taken]; rfl))
  | @tapFrameTaken f _ slot =>
    obtain ⟨p, m, r, h, -⟩ := s.tapFrameTaken_only f slot
    exact .inl (.of_work (by rw [h]))
  | rejudged _ active => exact .inl (State.judgedFrom_judgeRecord active _)
  | @recordBegun f _ rest =>
    have tested := (s.beginRecord f rest).judgedFrom_testRecord (f.handling ‹_›)
    exact .inl tested
  | slotTaken work => exact .inl (State.judgedFrom_takeSlot work)
  | tapHoldGranted work => exact .inl (State.judgedFrom_handleHold work _ _)
  | assistTaken => exact .inl (State.judgedFrom_takeAssist _ _ _ _ _)
  | jobTaken => exact .inl (.of_matcher (by simp))
  | computed => exact .inl (.of_matcher rfl)
  | displacedSettled =>
    refine .inl (.of_matcher ?_)
    rw [State.setFau, State.writeBackUntracked]
    simpa using State.matcher_report s _ _ _ _
  | holdAsked => exact .inl (.of_matcher (by simp [State.setFau]))
  | writeBack => exact .inl (State.judgedFrom_writeBack _ _ _ _ _)
  | examined => exact .inl (.of_matcher (State.matcher_examineBucket _ _ _))
  | sweeperSlotTaken => exact .inl (.of_matcher (by simp))
  | powerUpPass => exact .inl (.of_work ((State.work_nextPassBucket _ _).trans rfl))
  | restartPass => exact .inl (.of_work (State.work_restartPassBucket _ _))
  | passSlotTaken => exact .inl (.of_matcher (by simp))
  | clearCompleted => exact .inl (.of_matcher (by simp [State.completeClear]))
  | @checkEnded b =>
    cases failure : checkFailure (s.words b) with
    | none => exact .inr ⟨b, State.endCheck_pass failure⟩
    | some code =>
      unfold State.endCheck
      rw [failure]
      exact .inl (.of_matcher (by simp [State.endCheckAs, State.failCheckAt]))
  | @tokenRead token entry =>
    refine .inl (.of_matcher ?_)
    unfold State.readRecord
    split <;> simp
  | request row _ => exact .inl (.of_work (row.done _ _).work)

end Leaves

/-! ### The three invariants -/

/-- A bank in use keeps its words. -/
theorem Moves.words_inUse {s t : State} {c : Instr} (m : Moves s c t) (sound : s.banksSound) {k : BankId}
    (inUse : (s.bank k).state.inUse) : t.words k = s.words k := by
  have notStaging : (s.bank k).state ≠ .staging := by rcases inUse with h | h <;> simp [h]
  refine ((m.effects.rewritten k).frozen notStaging ?_).1 (by rcases inUse with h | h <;> simp [h])
  rintro ⟨d, inFlight, rfl⟩
  exact notStaging (sound.2.2 d inFlight)

theorem Moves.banksSound {s t : State} {c : Instr} (m : Moves s c t) (sound : s.banksSound) : t.banksSound := by
  rcases m.effects.banksOutcome with out | ⟨b, checking, rfl⟩
  · exact out.banksSound sound
  · exact State.banksSound_passCheck sound checking

theorem Moves.activeBank {s t : State} {c : Instr} (m : Moves s c t) (active : s.activeBank.isSome = true) :
    t.activeBank.isSome = true := by
  rcases m.effects.banksOutcome with out | ⟨b, checking, rfl⟩
  · exact out.activeBank active
  · exact (State.activeBank_isSome_iff _).2 ⟨b, s.state_passCheck b⟩

theorem Moves.judgedInForce {s t : State} {c : Instr} (m : Moves s c t) (sound : s.banksSound)
    (inForce : s.judgedInForce) : t.judgedInForce := by
  rcases m.effects.banksOutcome with out | ⟨b, -, rfl⟩
  · rcases m.judgedFrom with comes | ⟨b, rfl⟩
    · rintro h judged ⟨stands, used⟩
      have wasUsed := out.inUse _ used
      rw [m.words_inUse sound wasUsed]
      rcases comes h judged with before | ⟨-, now⟩
      · exact inForce h before ⟨stands, wasUsed⟩
      · exact now
    · exact State.judgedInForce_passCheck inForce b
  · exact State.judgedInForce_passCheck inForce b

/-- A period of the timing input keeps what a second boundary keeps of the banks and of the Matcher. -/
theorem State.referencePeriod_keeps {P : State → Prop} {s : State} (holds : P s) (boundary : P s.secondBoundary)
    (frame : ∀ u v : State, v.store = u.store → v.matcher = u.matcher → P u → P v) : P s.referencePeriod :=
  State.referencePeriod_induct (fun _ => frame s _ rfl rfl holds) boundary (fun u _ => frame u _ rfl rfl)
    fun u => frame u _ (by simp) (by simp)

theorem State.judgedInForce.of_stores {s t : State} (inForce : s.judgedInForce) (store : t.store = s.store)
    (matcher : t.matcher = s.matcher) : t.judgedInForce := by
  have bank : ∀ b, t.bank b = s.bank b := fun b => by rw [State.bank, store, State.bank]
  intro h judged ⟨stands, used⟩
  rw [State.words, bank]
  exact inForce h (matcher ▸ judged) ⟨stands, bank h.judging ▸ used⟩

theorem State.banksSound.of_store {s t : State} (sound : s.banksSound) (store : t.store = s.store) : t.banksSound :=
  (State.BanksOutcome.of_store store).banksSound sound

/-- Settles O8: the states by what each command makes of them, and the record in work by where it comes from. -/
theorem bankStatesStaySound : Obligations.BankStatesStaySound := by
  have sound : ∀ s t : State, s.banksSound → step s = .next t → t.banksSound :=
    step_keeps (fun _ _ h => h) (fun s h => State.referencePeriod_keeps h ((Moves.secondBoundary (s := s)).banksSound h)
      fun _ _ store _ => fun k => k.of_store store) fun _ _ _ h m => m.banksSound h
  have active : ∀ s t : State, s.activeBank.isSome = true → step s = .next t → t.activeBank.isSome = true :=
    step_keeps (I := fun s => s.activeBank.isSome = true) (fun _ _ h => h) (fun s h => State.referencePeriod_keeps
      (P := fun s => s.activeBank.isSome = true) h ((Moves.secondBoundary (s := s)).activeBank h)
      fun _ _ store _ => (State.BanksOutcome.of_store store).activeBank) fun _ _ _ h m => m.activeBank h
  have judged : ∀ s t : State, s.banksSound ∧ s.judgedInForce → step s = .next t → t.banksSound ∧ t.judgedInForce :=
    step_keeps (I := fun s => s.banksSound ∧ s.judgedInForce) (fun _ _ h => h)
      (fun s ⟨h, k⟩ => State.referencePeriod_keeps (P := fun s => s.banksSound ∧ s.judgedInForce) ⟨h, k⟩
        ⟨Moves.secondBoundary.banksSound h, Moves.secondBoundary.judgedInForce h k⟩
        fun _ _ store matcher ⟨h, k⟩ => ⟨h.of_store store, k.of_stores store matcher⟩)
      fun _ _ _ ⟨h, k⟩ m => ⟨m.banksSound h, m.judgedInForce h k⟩
  exact fun s t h run => ⟨sound s t h run, fun some => active s t some run, fun inForce => (judged s t ⟨h, inForce⟩ run).2⟩

end Sys2Proof.Machine
end
